-- ==== Sys2Proof/Word.lean ====
section
/-! DEFINITION. The word types of the PS1 card frame codec (spec/00_scope.md R4, R6, R7). -/

namespace Sys2Proof

/-- One byte of a buffer, of the wire or of a port (R7). -/
abbrev Byte := BitVec 8

/-- A frame address, 0 to 1023: `ADDR_W` is 10 bits (R4, R72). -/
abbrev Addr := BitVec 10

/-- A control word: `CW_W` is 16 bits, bit 0 least significant (R4, R6, R70). -/
abbrev ControlWord := BitVec 16

end Sys2Proof
end

