-- ==== Sys2Proof/Syntax.lean ====
section
/-! DEFINITION. The instructions: one constructor per row of spec/opcode_table.json. The first six are the
operations of the control-word port (R70, R71). The last four are the wire command frames (R78 to R82): what
the transport reads from `CMD_BUF` and puts on the wire (R88, R143). -/

namespace Sys2Proof

/-- One row of the opcode table, with its operands. The write data of ENC.WRITE and CSUM is no part of the
control word: it is sampled from the port `WDATA` (R76). -/
inductive Instr where
  /-- ENC.VERIFY: build the VerifyCardType command (R101). -/
  | encVerify
  /-- ENC.GETID: build the GetId command (R102). -/
  | encGetid
  /-- ENC.READ a: build the ReadFrame command for frame address `a` (R103). -/
  | encRead (a : Addr)
  /-- ENC.WRITE a: build the WriteFrame command for frame address `a` and `WDATA` (R104). -/
  | encWrite (a : Addr)
  /-- DECODE: validate the response of the outstanding exchange (R150). -/
  | decode
  /-- CSUM a: the frame checksum of an address and `WDATA` (R125). -/
  | csum (a : Addr)
  /-- WIRE.VerifyCardType: the 2-byte frame of R79 goes on the wire (R143). -/
  | wireVerifyCardType
  /-- WIRE.GetId: the 14-byte frame of R80 goes on the wire (R143). -/
  | wireGetId
  /-- WIRE.ReadFrame a: the 144-byte frame of R81 goes on the wire (R143). -/
  | wireReadFrame (a : Addr)
  /-- WIRE.WriteFrame: the 142-byte frame of R82, with its 128 data bytes and its checksum byte, goes on the
  wire (R143). -/
  | wireWriteFrame (a : Addr) (data : List Byte) (checksum : Byte)
  deriving DecidableEq, Repr

/-- The row's mnemonic in spec/opcode_table.json, which for the six operations is that of R90. -/
def Instr.mnemonic : Instr → String
  | .encVerify => "ENC.VERIFY"
  | .encGetid => "ENC.GETID"
  | .encRead _ => "ENC.READ"
  | .encWrite _ => "ENC.WRITE"
  | .decode => "DECODE"
  | .csum _ => "CSUM"
  | .wireVerifyCardType => "WIRE.VerifyCardType"
  | .wireGetId => "WIRE.GetId"
  | .wireReadFrame _ => "WIRE.ReadFrame"
  | .wireWriteFrame _ _ _ => "WIRE.WriteFrame"

end Sys2Proof
end

