-- ==== Sys2Proof/WellFormed.lean ====
section
/-! DEFINITION. When a term of `Instr` is an instruction. An address is 10 bits by its type (R72); the one
thing the type does not say is that a WriteFrame frame carries exactly 128 data bytes (R4, R82). -/

namespace Sys2Proof

/-- Every instruction but a WriteFrame frame whose data is not 128 bytes long (`FRAME_BYTES`, R4; R82). -/
def Instr.wf : Instr → Bool
  | .encVerify => true
  | .encGetid => true
  | .encRead _ => true
  | .encWrite _ => true
  | .decode => true
  | .csum _ => true
  | .wireVerifyCardType => true
  | .wireGetId => true
  | .wireReadFrame _ => true
  | .wireWriteFrame _ data _ => data.length == 128

end Sys2Proof
end

