-- ==== Sys2Proof/Decode.lean ====
section
/-! DEFINITION. The decoder, total on every 16-bit control word (spec/30_encoding.md R70 to R75) and on every
list of bytes as a wire command frame (R78 to R82, R88), rejecting by name; then the encoder, written from
the same tables; then the assembler of R90 and the table words of spec/opcode_table.json. -/

namespace Sys2Proof

/-- What an instruction is read from: the control-word port (R70), or the command bytes the transport takes
from `CMD_BUF` (R143). -/
inductive Fetched where
  | controlWord (w : ControlWord)
  | frame (bytes : List Byte)
  deriving DecidableEq, Repr

/-- Why the decoder rejects. The first three make a control word illegal (R74); the others say that the bytes
are no command frame the block builds (R88). -/
inductive Reject where
  /-- `CW[15:13]` is not zero (R73). -/
  | reservedField
  /-- `OP` is 6 or 7 (R71). -/
  | reservedOp
  /-- `ADDR` is not zero and the operation takes no address (R72). -/
  | strayAddress
  /-- Byte 0 is not the magic byte 0xAA (R78, R79). -/
  | noMagic
  /-- Byte 1 is neither 0x40 nor 0x42 (R78, R79). -/
  | unknownClass
  /-- The length is not the one of the command shape (R78, R88). -/
  | wrongLength
  /-- Byte 3, 4, 6 or 7 is not the constant the source gives (R92). -/
  | wrongConstant
  /-- Byte 5 is none of 0x53, 0x52 and 0x57 (R88). -/
  | unknownOpcode
  /-- Byte 8 is above 0x03, so bytes 8 and 9 are no frame address (R77). -/
  | addressRange
  /-- A zero placeholder or a trailing zero is not 0x00 (R80, R81, R82). -/
  | nonzeroPadding
  deriving DecidableEq, Repr

/-- What the decoder answers. -/
inductive Decoded where
  | instr (i : Instr)
  | reject (why : Reject)
  deriving DecidableEq, Repr

/-- The instruction, where there is one. -/
def Decoded.instr? : Decoded → Option Instr
  | .instr i => some i
  | .reject _ => none

/-! ## The control word -/

/-- `OP`, bits 2..0 (R70). -/
def cwOp (w : ControlWord) : BitVec 3 := w.extractLsb' 0 3

/-- `ADDR`, bits 12..3: the address operand `a` (R70, R77). -/
def cwAddr (w : ControlWord) : Addr := w.extractLsb' 3 10

/-- `RSVD`, bits 15..13 (R70). -/
def cwRsvd (w : ControlWord) : BitVec 3 := w.extractLsb' 13 3

/-- `legal(CW)` of R74, as it stands there. -/
def legal (w : ControlWord) : Bool :=
  cwRsvd w == 0
    && (cwOp w).toNat ≤ 5
    && ((cwOp w == 2 || cwOp w == 3 || cwOp w == 5) || cwAddr w == 0)

/-- An operation without an address operand: its `ADDR` field must be zero (R72). -/
def withoutAddress (a : Addr) (i : Instr) : Decoded :=
  if a = 0 then .instr i else .reject .strayAddress

/-- The control word's operation, by the op codes of R71. -/
def decodeControlWord (w : ControlWord) : Decoded :=
  if cwRsvd w ≠ 0 then .reject .reservedField
  else
    match (cwOp w).toNat with
    | 0 => withoutAddress (cwAddr w) .encVerify
    | 1 => withoutAddress (cwAddr w) .encGetid
    | 2 => .instr (.encRead (cwAddr w))
    | 3 => .instr (.encWrite (cwAddr w))
    | 4 => withoutAddress (cwAddr w) .decode
    | 5 => .instr (.csum (cwAddr w))
    | _ => .reject .reservedOp

/-! ## The wire command frames -/

/-- `msb(a)`: the two high bits of a frame address, as a byte (R9). -/
def msb (a : Addr) : Byte := (a.extractLsb' 8 2).setWidth 8

/-- `lsb(a)`: the low byte of a frame address (R9). -/
def lsb (a : Addr) : Byte := a.extractLsb' 0 8

/-- The address whose two bytes are `m` and `l`, for `m` at most 0x03: `(m << 8) | l` (R9). -/
def addrOfBytes (m l : Byte) : Addr := (m.setWidth 10 <<< 8) ||| l.setWidth 10

/-- All bytes of the list are 0x00. -/
def allZero (bs : List Byte) : Bool := bs.all (· == 0x00)

/-- A GetId frame: 14 bytes, bytes 6 to 13 zero (R80). -/
def decodeGetId (b : List Byte) : Decoded :=
  if b.length ≠ 14 then .reject .wrongLength
  else if allZero (b.drop 6) then .instr .wireGetId
  else .reject .nonzeroPadding

/-- The checks that ReadFrame and WriteFrame share: bytes 6 and 7 are 0x00 (R92), and bytes 8 and 9 are the
address, MSB first, with `msb(a)` at most 0x03 (R53, R77). -/
def decodeAddressed (b : List Byte) (k : Addr → Decoded) : Decoded :=
  if b.getD 6 0 ≠ 0x00 ∨ b.getD 7 0 ≠ 0x00 then .reject .wrongConstant
  else if 0x03 < (b.getD 8 0).toNat then .reject .addressRange
  else k (addrOfBytes (b.getD 8 0) (b.getD 9 0))

/-- A ReadFrame frame: 144 bytes, bytes 10 to 143 zero (R81). -/
def decodeReadFrame (b : List Byte) : Decoded :=
  if b.length ≠ 144 then .reject .wrongLength
  else decodeAddressed b fun a =>
    if allZero (b.drop 10) then .instr (.wireReadFrame a) else .reject .nonzeroPadding

/-- A WriteFrame frame: 142 bytes, data at 10 to 137, checksum at 138, zeros at 139 to 141 (R82). The frame is
recognised by its first bytes alone (R88): the checksum byte is read as it stands, not compared (log entry 9). -/
def decodeWriteFrame (b : List Byte) : Decoded :=
  if b.length ≠ 142 then .reject .wrongLength
  else decodeAddressed b fun a =>
    if allZero (b.drop 139) then
      .instr (.wireWriteFrame a ((b.drop 10).take 128) (b.getD 138 0))
    else .reject .nonzeroPadding

/-- A long command: `[0xAA, 0x42, L, 0x00, 0x81, OPC]` with `L` the length less 4 (R78, R88). -/
def decodeLong (b : List Byte) : Decoded :=
  if b.length ≠ (b.getD 2 0).toNat + 4 then .reject .wrongLength
  else if b.getD 3 0 ≠ 0x00 ∨ b.getD 4 0 ≠ 0x81 then .reject .wrongConstant
  else if b.getD 5 0 = 0x53 then decodeGetId b
  else if b.getD 5 0 = 0x52 then decodeReadFrame b
  else if b.getD 5 0 = 0x57 then decodeWriteFrame b
  else .reject .unknownOpcode

/-- The command whose bytes these are, by the first bytes (R88). -/
def decodeFrame (b : List Byte) : Decoded :=
  if b.getD 0 0 ≠ 0xAA then .reject .noMagic
  else if b.getD 1 0 = 0x40 then
    if b.length = 2 then .instr .wireVerifyCardType else .reject .wrongLength
  else if b.getD 1 0 = 0x42 then decodeLong b
  else .reject .unknownClass

/-- The decoder. -/
def decode : Fetched → Decoded
  | .controlWord w => decodeControlWord w
  | .frame b => decodeFrame b

/-! ## The encoder -/

/-- The control word with op code `op`, address `a` and `RSVD` zero: `(a << 3) | op` (R70, R74). -/
def controlWord (op : BitVec 3) (a : Addr) : ControlWord := (a.setWidth 16 <<< 3) ||| op.setWidth 16

/-- The VerifyCardType command, 2 bytes (R79). -/
def verifyFrame : List Byte := [0xAA, 0x40]

/-- The GetId command, 14 bytes (R80). -/
def getIdFrame : List Byte :=
  [0xAA, 0x42, 0x0A, 0x00, 0x81, 0x53] ++ List.replicate 8 0x00

/-- The ReadFrame command for address `a`, 144 bytes (R81). -/
def readFrame (a : Addr) : List Byte :=
  [0xAA, 0x42, 0x8C, 0x00, 0x81, 0x52, 0x00, 0x00, msb a, lsb a] ++ List.replicate 134 0x00

/-- The WriteFrame command for address `a`, data `d` and checksum byte `c`, 142 bytes when `d` has 128 (R82). -/
def writeFrame (a : Addr) (d : List Byte) (c : Byte) : List Byte :=
  [0xAA, 0x42, 0x8A, 0x00, 0x81, 0x57, 0x00, 0x00, msb a, lsb a] ++ d ++ [c, 0x00, 0x00, 0x00]

/-- The encoder: the control word of an operation (R71), or the bytes of a command frame (R79 to R82). -/
def encode : Instr → Fetched
  | .encVerify => .controlWord (controlWord 0 0)
  | .encGetid => .controlWord (controlWord 1 0)
  | .encRead a => .controlWord (controlWord 2 a)
  | .encWrite a => .controlWord (controlWord 3 a)
  | .decode => .controlWord (controlWord 4 0)
  | .csum a => .controlWord (controlWord 5 a)
  | .wireVerifyCardType => .frame verifyFrame
  | .wireGetId => .frame getIdFrame
  | .wireReadFrame a => .frame (readFrame a)
  | .wireWriteFrame a d c => .frame (writeFrame a d c)

/-! ## The assembler of R90 -/

/-- An operation's mnemonic and its operand `<a>`, where it is written with one, to its control word: `<a>` is
0 to 1023 and goes to `CW[12:3]` (R90). Host actions have no control word and are not assembled. -/
def assemble (mnemonic : String) (operand : Option Nat) : Option ControlWord :=
  match operand with
  | none =>
    if mnemonic = "ENC.VERIFY" then some (controlWord 0 0)
    else if mnemonic = "ENC.GETID" then some (controlWord 1 0)
    else if mnemonic = "DECODE" then some (controlWord 4 0)
    else none
  | some a =>
    if 1023 < a then none
    else if mnemonic = "ENC.READ" then some (controlWord 2 (BitVec.ofNat 10 a))
    else if mnemonic = "ENC.WRITE" then some (controlWord 3 (BitVec.ofNat 10 a))
    else if mnemonic = "CSUM" then some (controlWord 5 (BitVec.ofNat 10 a))
    else none

/-! ## Table words

A row of spec/opcode_table.json is a pattern of bits: 16 bits of a control word, or the first bytes of a wire
frame, byte 0 first. Read as one number with bit 0 least significant, byte 0 of a frame is the MOST
significant byte (the table's own reading of its row WIRE.VerifyCardType is 0xAA40). A word numbered byte by
byte, byte 0 least significant, is read too: no word is a frame in both orders (log entry 10). -/

/-- The `n` bytes of `w`, the most significant first. -/
def bytesHighFirst : Nat → Nat → List Byte
  | 0, _ => []
  | n + 1, w => BitVec.ofNat 8 (w / 256 ^ n) :: bytesHighFirst n w

/-- The `n` bytes of `w`, the least significant first. -/
def bytesLowFirst : Nat → Nat → List Byte
  | 0, _ => []
  | n + 1, w => BitVec.ofNat 8 w :: bytesLowFirst n (w / 256)

/-- A frame whose first bytes the table gives, its remaining bytes 0x00: a long command is `L + 4` bytes long
(R78). -/
def padFrame (b : List Byte) : List Byte :=
  if b.getD 1 0 = 0x42 then
    b ++ List.replicate ((b.getD 2 0).toNat + 4 - b.length) 0x00
  else b

/-- Where an instruction whose table bits are `w` stands: on the control-word port if `w` is a legal control
word, else in the bytes of a command frame, else (no instruction at all) on the control-word port. -/
def tableFetch (nbits w : Nat) : Fetched :=
  if nbits ≤ 16 ∧ (decodeControlWord (BitVec.ofNat 16 w)).instr?.isSome then
    .controlWord (BitVec.ofNat 16 w)
  else if (decodeFrame (padFrame (bytesHighFirst ((nbits + 7) / 8) w))).instr?.isSome then
    .frame (padFrame (bytesHighFirst ((nbits + 7) / 8) w))
  else if (decodeFrame (padFrame (bytesLowFirst ((nbits + 7) / 8) w))).instr?.isSome then
    .frame (padFrame (bytesLowFirst ((nbits + 7) / 8) w))
  else .controlWord (BitVec.ofNat 16 w)

/-- The instruction the decoder reads from an instruction whose table bits are `w`. -/
def decodeTableWord (nbits w : Nat) : Option Instr :=
  (decode (tableFetch nbits w)).instr?

end Sys2Proof
end

