-- ==== Sys2Proof/Config.lean ====
section
/-! DEFINITION. What the spec leaves to the implementation, and the free values: no constant declared
opaque here has a body, so nothing in Lean can evaluate one or prove a value of it. -/

namespace Sys2Proof

/-- The implementation's choice of the open parameter `P_AUTH_FAIL` (R5, R44, R233; 92 D14; 93 U6): one of
the 255 bytes other than 0x5A, named by its place among them. Free (log entry 2). -/
opaque Config.authFailIndex : Fin 255

/-- The 255 admissible values of `P_AUTH_FAIL`, in rising order and without 0x5A (R5). -/
def Config.authFailCode (ix : Fin 255) : Byte :=
  BitVec.ofNat 8 (if ix.val < 0x5A then ix.val else ix.val + 1)

/-- `P_AUTH_FAIL`: the wrong-authentication code that response byte 1 is compared with (R5, R155).
Fixed before reset and no part of the state (R44, R233). -/
def Config.pAuthFail : Byte := Config.authFailCode Config.authFailIndex

/-- The stream of `draw()` (R8): byte `k` is the `k`-th byte the model takes as a free input under no law.
Which `k` a draw takes is decided by the counter `draws` of the state (log entry 3). -/
opaque Config.draw : Nat → Byte

/-- What byte `i` of the write-data port `WDATA` holds while its user has never driven it: the spec names no
value (R41, R76, R90). Free (log entry 5). -/
opaque Config.undrivenWdata : Nat → Byte

end Sys2Proof
end

