-- ==== Sys2Proof/Machine/State.lean ====
section
/-! DEFINITION. The state of the block: every register and buffer of spec/10_state.md R22 to R40, under its
own name, and the inputs of R41; the reasons a step can stop; the state after reset (R43, R230).

A register that holds one of a fixed set of named codes is an inductive type here, and `Machine/Ops.lean` gives
each code its number; a register the spec takes bit by bit (`OUTCOME`) or as a number is a bit vector. -/

namespace Sys2Proof.Machine

/-- The kind of an exchange, the code of `LAT_KIND` and `RES_KIND` (R24; 00_scope.md glossary). -/
inductive Kind where
  | verify
  | getId
  | read
  | write
  deriving DecidableEq, Repr

/-- `PERR_CAUSE`: which check recorded ProtocolError (R32). The values 5 to 7 are never written. -/
inductive PErrCause where
  | none
  | length
  | adapterStatus
  | commandStatus
  | endByte
  deriving DecidableEq, Repr

/-- `CARD_TYPE` (R33). -/
inductive CardType where
  | none
  | ps1
  | ps2
  | unknown
  deriving DecidableEq, Repr

/-- `IDENT` (R34). The value 3 is never written. -/
inductive Ident where
  | none
  | memoryCard
  | unknown
  deriving DecidableEq, Repr

/-- `FAULT_CAUSE` (R39, R201). -/
inductive FaultCause where
  | none
  | illegalOp
  | exchangeOutstanding
  | noExchange
  | noResponse
  | unexpectedResponse
  | responseOverrun
  | badRespLen
  deriving DecidableEq, Repr

/-- The bytes of one byte-indexed space that have been written, as pairs of index and byte, the indices
strictly rising. An index that is not listed has not been written since reset: its byte is unspecified (R43,
93 U1), and `readByte` of `Machine/Ops.lean` says what is read there. -/
abbrev Memory := List Host.Cell

/-- The three byte-indexed spaces (R50). -/
inductive Space where
  | cmdBuf
  | respBuf
  | rdata
  deriving DecidableEq, Repr

/-- The registers the host reads by name (R42, R43). -/
inductive Reg where
  | cmdLen
  | latKind
  | latAddr
  | latValid
  | respLen
  | xferErr
  | respFull
  | resValid
  | resKind
  | resAddr
  | outcome
  | perrCause
  | cardType
  | ident
  | calcCsum
  | endByte
  | fatal
  | faultCause
  | faultInfo
  deriving DecidableEq, Repr

/-- What one host read names: a register, or one byte of a space (R42, R56). -/
inductive HostRead where
  | reg (r : Reg)
  | byte (sp : Space) (i : Nat)
  deriving DecidableEq, Repr

/-- What the outside presents to the block, one at a time (R41, R60). -/
inductive Input where
  /-- The user presents a control word (R70). -/
  | control (w : ControlWord)
  /-- The user drives the write-data port, `WDATA <- <128 bytes>` (R76, R90). -/
  | drive (d : Vector Byte 128)
  /-- HOST.DELIVER(n, r, err): `n` is the number of bytes of `r` (R140). -/
  | deliver (r : List Byte) (err : Bool)
  /-- The transport reads the command and sends it (R143). -/
  | send
  /-- A host read of a register or a buffer byte (R42, R57). -/
  | read (r : HostRead)
  /-- The reset input, HOST.RESET (R230, R231). -/
  | reset
  deriving DecidableEq, Repr

/-- The block, its ports, and the model's own record of what is free and what is presented. -/
structure State where
  /-- `CMD_BUF`, 144 bytes (R22). -/
  cmdBuf : Memory
  /-- `CMD_LEN`, 8 bits (R23). -/
  cmdLen : BitVec 8
  /-- `LAT_KIND`, 2 bits (R24). -/
  latKind : Kind
  /-- `LAT_ADDR`, 10 bits (R24). -/
  latAddr : Addr
  /-- `LAT_VALID`, 1 bit (R25). -/
  latValid : Bool
  /-- `RESP_BUF`, 144 bytes (R26). -/
  respBuf : Memory
  /-- `RESP_LEN`, 8 bits (R27). -/
  respLen : BitVec 8
  /-- `XFER_ERR`, 1 bit (R28). -/
  xferErr : Bool
  /-- `RESP_FULL`, 1 bit (R29). -/
  respFull : Bool
  /-- `RES_VALID`, 1 bit (R30). -/
  resValid : Bool
  /-- `RES_KIND`, 2 bits (R30). -/
  resKind : Kind
  /-- `RES_ADDR`, 10 bits (R30). -/
  resAddr : Addr
  /-- `OUTCOME`, 12 bits, one per TransferOutcome (R31). -/
  outcome : BitVec 12
  /-- `PERR_CAUSE`, 3 bits (R32). -/
  perrCause : PErrCause
  /-- `CARD_TYPE`, 2 bits (R33). -/
  cardType : CardType
  /-- `IDENT`, 2 bits (R34). -/
  ident : Ident
  /-- `RDATA`, 128 bytes (R35). -/
  rdata : Memory
  /-- `CALC_CSUM`, 8 bits (R36). -/
  calcCsum : BitVec 8
  /-- `END_BYTE`, 8 bits (R37). -/
  endByte : BitVec 8
  /-- `FATAL`, 1 bit (R38). -/
  fatal : Bool
  /-- `FAULT_CAUSE`, 3 bits (R39). -/
  faultCause : FaultCause
  /-- `FAULT_INFO`, 16 bits (R40). -/
  faultInfo : BitVec 16
  /-- The port `WDATA`, 128 bytes: what its user last drove (R41, R76, R90). An input, not a register. -/
  wdata : Memory
  /-- The model's own: what the outside presents from here on, in the total order of R60 (log entry 1). -/
  inputs : List Input
  /-- The model's own: the bytes the transport has put on the wire for the exchange last encoded (R143; log
  entry 8). -/
  wire : List Byte
  /-- The model's own: how many bytes of the stream `Config.draw` have been taken (log entry 3). -/
  draws : Nat
  /-- The model's own: where in that stream the bytes stand that the last reset left in the buffers (R230; log
  entry 3). -/
  resetDraw : Nat
  deriving DecidableEq, Repr

/-- Why the machine stops. A BLOCK FAULT of R201 is none of these: it is taken, as a next state (R203). -/
inductive Fault where
  /-- The block is faulted (`FAULT_CAUSE` is not 0), and a control word, a HOST.DELIVER or a transport's send is
  presented: none has a step until reset (R204; 93 U14). Raised by every meaning and by HOST.DELIVER. SAFE: the
  machine stops where the block does not move. -/
  | stuck
  deriving DecidableEq, Repr

/-- An input the model has no meaning for (R10). The block produces none of these. -/
inductive Refusal where
  /-- The instruction has no meaning yet. Raised by no arm of this model. SAFE. -/
  | notModelled (mnemonic : String)
  /-- The transport sends what R143 and R235 forbid: with no command outstanding, after its response was
  delivered, a second time, or bytes other than `CMD_BUF[0..CMD_LEN-1]`; a model has no move for it (93 U9).
  Raised by the wire frames' meanings. SAFE for claims about the block, which cannot see the wire. -/
  | transportBreach
  /-- `CMD_BUF[0..CMD_LEN-1]` is no command the block builds, so there is nothing to send (R88, R235). Raised by
  the transport's send: from reset until the first ENC operation. SAFE. -/
  | noCommandFrame
  /-- A host read names an index outside its space: it names nothing, and a model refuses it (R50). SAFE. -/
  | noSuchIndex
  /-- HOST.DELIVER with more than 255 bytes: `n` is an 8-bit value at the port, so it cannot be presented
  (R140). SAFE. -/
  | beyondPort
  deriving DecidableEq, Repr

/-- The state after reset (R43, R230): every control register 0, no byte of a buffer specified, nothing
presented. The reset has taken the first 416 bytes of the stream of draws, one for each byte of the three
buffers. -/
def State.reset : State where
  cmdBuf := []
  cmdLen := 0
  latKind := .verify
  latAddr := 0
  latValid := false
  respBuf := []
  respLen := 0
  xferErr := false
  respFull := false
  resValid := false
  resKind := .verify
  resAddr := 0
  outcome := 0
  perrCause := .none
  cardType := .none
  ident := .none
  rdata := []
  calcCsum := 0
  endByte := 0
  fatal := false
  faultCause := .none
  faultInfo := 0
  wdata := []
  inputs := []
  wire := []
  draws := 416
  resetDraw := 0

end Sys2Proof.Machine
end

