-- ==== Sys2Proof/Machine/Ops.lean ====
section
/-! DEFINITION. The shared operations: the byte-indexed spaces, the registers as the host reads them, the
block fault (R203) and the only return from one, reset (R206, R230), and the writes each step makes. -/

namespace Sys2Proof.Machine

/-! ## Codes -/

/-- The kind code (R24). -/
def Kind.code : Kind → BitVec 2
  | .verify => 0
  | .getId => 1
  | .read => 2
  | .write => 3

/-- The code of `PERR_CAUSE` (R32). -/
def PErrCause.code : PErrCause → BitVec 3
  | .none => 0
  | .length => 1
  | .adapterStatus => 2
  | .commandStatus => 3
  | .endByte => 4

/-- The code of `CARD_TYPE` (R33). -/
def CardType.code : CardType → BitVec 2
  | .none => 0
  | .ps1 => 1
  | .ps2 => 2
  | .unknown => 3

/-- The code of `IDENT` (R34). -/
def Ident.code : Ident → BitVec 2
  | .none => 0
  | .memoryCard => 1
  | .unknown => 2

/-- The code of `FAULT_CAUSE` (R201). -/
def FaultCause.code : FaultCause → BitVec 3
  | .none => 0
  | .illegalOp => 1
  | .exchangeOutstanding => 2
  | .noExchange => 3
  | .noResponse => 4
  | .unexpectedResponse => 5
  | .responseOverrun => 6
  | .badRespLen => 7

/-! ## Memory: the bytes of one space -/

/-- The byte written at an index, where one has been. -/
def Memory.byte? : Memory → Nat → Option Byte
  | [], _ => none
  | (k, v) :: m, i => if k = i then some v else Memory.byte? m i

/-- The bytes of a list at indices `k`, `k + 1`, and so on. -/
def Memory.ofBytesFrom : Nat → List Byte → Memory
  | _, [] => []
  | k, b :: bs => (k, b) :: Memory.ofBytesFrom (k + 1) bs

/-- A space written as a whole, byte 0 first (R53). Every write of the block is of a whole space (R56). -/
def Memory.ofBytes (bs : List Byte) : Memory := Memory.ofBytesFrom 0 bs

/-- The indices rise strictly, and all are at least `lo` and below `size`. -/
def Memory.wfFrom (size : Nat) : Nat → Memory → Bool
  | _, [] => true
  | lo, (k, _) :: m => decide (lo ≤ k) && decide (k < size) && Memory.wfFrom size (k + 1) m

/-- The canonical form: indices strictly rising and inside the space. An unlisted index holds no definite byte,
so no listed entry can equal it. -/
def Memory.wf (size : Nat) (m : Memory) : Bool := Memory.wfFrom size 0 m

/-! ## The spaces -/

/-- How many bytes a space has: `BUF_BYTES` is 144, `FRAME_BYTES` 128 (R4, R50). -/
def Space.size : Space → Nat
  | .cmdBuf => 144
  | .respBuf => 144
  | .rdata => 128

/-- Where a space's bytes stand among the 416 draws of a reset. -/
def Space.drawBase : Space → Nat
  | .cmdBuf => 0
  | .respBuf => 144
  | .rdata => 288

/-- How many draws a reset takes: one for each byte of the three spaces (R230). -/
def resetDraws : Nat := 416

/-- The bytes of a space that have been written. -/
def State.space (s : State) : Space → Memory
  | .cmdBuf => s.cmdBuf
  | .respBuf => s.respBuf
  | .rdata => s.rdata

/-- One byte of a space (R50). A byte not written since reset is the draw that reset left there: any value, the
same until it is written (R43, R57; 93 U1). -/
def readByte (sp : Space) (i : Nat) (s : State) : Byte :=
  (Memory.byte? (s.space sp) i).getD (Config.draw (s.resetDraw + sp.drawBase + i))

/-- `n` bytes of a space from index `lo`, in index order (R7). -/
def readBytes (sp : Space) (lo n : Nat) (s : State) : List Byte :=
  (List.range' lo n).map fun i => readByte sp i s

/-- One byte of the port `WDATA` (R76). -/
def wdataByte (i : Nat) (s : State) : Byte :=
  (Memory.byte? s.wdata i).getD (Config.undrivenWdata i)

/-- `WDATA[0..127]`, in wire order (R76). -/
def wdataBytes (s : State) : List Byte := (List.range' 0 128).map fun i => wdataByte i s

/-! ## What the host reads (R42) -/

/-- The width of a register (R43). -/
def Reg.width : Reg → Nat
  | .cmdLen => 8
  | .latKind => 2
  | .latAddr => 10
  | .latValid => 1
  | .respLen => 8
  | .xferErr => 1
  | .respFull => 1
  | .resValid => 1
  | .resKind => 2
  | .resAddr => 10
  | .outcome => 12
  | .perrCause => 3
  | .cardType => 2
  | .ident => 2
  | .calcCsum => 8
  | .endByte => 8
  | .fatal => 1
  | .faultCause => 3
  | .faultInfo => 16

/-- The value the host reads in a register. -/
def readReg (s : State) : (r : Reg) → BitVec r.width
  | .cmdLen => s.cmdLen
  | .latKind => s.latKind.code
  | .latAddr => s.latAddr
  | .latValid => BitVec.ofBool s.latValid
  | .respLen => s.respLen
  | .xferErr => BitVec.ofBool s.xferErr
  | .respFull => BitVec.ofBool s.respFull
  | .resValid => BitVec.ofBool s.resValid
  | .resKind => s.resKind.code
  | .resAddr => s.resAddr
  | .outcome => s.outcome
  | .perrCause => s.perrCause.code
  | .cardType => s.cardType.code
  | .ident => s.ident.code
  | .calcCsum => s.calcCsum
  | .endByte => s.endByte
  | .fatal => BitVec.ofBool s.fatal
  | .faultCause => s.faultCause.code
  | .faultInfo => s.faultInfo

/-! ## The block fault, and reset -/

/-- The two writes of a block fault with cause `c` and information `v`, and nothing else (R203). -/
def State.enterFault (s : State) (c : FaultCause) (v : BitVec 16) : State :=
  { s with faultCause := c, faultInfo := v }

/-- A step that raises a block fault: `raise Fault(c, v)` of R8 and R203. The block goes on existing, faulted, so
this is a next state (log entry 4). -/
def raiseFault (c : FaultCause) (v : BitVec 16) (s : State) : Host.Outcome State Fault Refusal :=
  .next (s.enterFault c v)

/-- The guard of every control word, HOST.DELIVER and send: a faulted block has no such step (R204, R205). -/
def whenNotFaulted (s : State) (k : Host.Outcome State Fault Refusal) :
    Host.Outcome State Fault Refusal :=
  if s.faultCause = .none then k else .fault .stuck

/-- The reset step: every register at the value of R43, every byte of the three buffers a new draw (R230). It is
accepted in every state, and is the only return from a block fault (R206, R231). The ports and what is still to
be presented are the outside's and stay. -/
def State.resetFrom (s : State) : State :=
  { State.reset with
    wdata := s.wdata
    inputs := s.inputs
    resetDraw := s.draws
    draws := s.draws + resetDraws }

/-! ## The writes of the steps -/

/-- What is still to be presented. -/
def State.withInputs (s : State) (is : List Input) : State := { s with inputs := is }

/-- The port `WDATA` driven with 128 bytes (R76, R90). -/
def State.driveWdata (s : State) (d : Vector Byte 128) : State :=
  { s with wdata := Memory.ofBytes d.toList }

/-- The writes of `ENC_common(k, a, frame)` once its check has passed (R100): the frame, 0x00 up to the end of
`CMD_BUF`, its length, the exchange latch, no response waiting. The exchange is new, so nothing of it has been
sent yet. `a` is the address the latch takes. -/
def State.openExchange (s : State) (k : Kind) (a : Addr) (frame : List Byte) : State :=
  { s with
    cmdBuf := Memory.ofBytes (frame ++ List.replicate (144 - frame.length) 0x00)
    cmdLen := BitVec.ofNat 8 frame.length
    latKind := k
    latAddr := a
    latValid := true
    respFull := false
    wire := [] }

/-- The writes of HOST.DELIVER once its checks have passed (R142): the `n` bytes of `r`, a draw for each byte of
`RESP_BUF` past them, the length and the error flag, a response waiting. -/
def State.receive (s : State) (r : List Byte) (err : Bool) : State :=
  { s with
    respBuf := Memory.ofBytes
      (r ++ (List.range' 0 (144 - r.length)).map fun j => Config.draw (s.draws + j))
    respLen := BitVec.ofNat 8 r.length
    xferErr := err
    respFull := true
    draws := s.draws + (144 - r.length) }

/-- The transport has put the frame on the wire (R143). -/
def State.markSent (s : State) (frame : List Byte) : State := { s with wire := frame }

/-- CSUM's one write (R125). -/
def State.setCalcCsum (s : State) (c : Byte) : State := { s with calcCsum := c }

/-- What DECODE finds out about the response (the locals `o`, `pc`, `ct`, `id` of R151). -/
structure Verdict where
  outcome : BitVec 12
  perrCause : PErrCause
  cardType : CardType
  ident : Ident
  deriving DecidableEq, Repr

/-- `FATAL <- o[9] | o[10]` (R38). -/
def fatalOf (o : BitVec 12) : Bool := o.getLsbD 9 || o.getLsbD 10

/-- The writes of DECODE (R151): every result register, all of `RDATA`, and the exchange is closed. -/
def State.recordResults (s : State) (v : Verdict) (data : List Byte) (csum endb : Byte) : State :=
  { s with
    rdata := Memory.ofBytes data
    calcCsum := csum
    endByte := endb
    outcome := v.outcome
    perrCause := v.perrCause
    cardType := v.cardType
    ident := v.ident
    fatal := fatalOf v.outcome
    resValid := true
    resKind := s.latKind
    resAddr := s.latAddr
    latValid := false
    respFull := false }

end Sys2Proof.Machine
end

