-- ==== Sys2Proof/Machine/Operands.lean ====
section
/-! DEFINITION. The operands and the values computed from them: lengths per kind (R4), the XOR checksum (R120,
R121), the comparator's input (R124), card type and identity (R166, R171), and the control word an operation is
presented with. -/

namespace Sys2Proof.Machine

/-- `CMD_LEN(kind)` (R4, R89). -/
def cmdLenOf : Kind → Nat
  | .verify => 2
  | .getId => 14
  | .read => 144
  | .write => 142

/-- `REQ_LEN(kind)`: the response length the decoder needs (R4, R153). -/
def reqLenOf : Kind → Nat
  | .verify => 2
  | .getId => 14
  | .read => 144
  | .write => 142

/-- `xor_fold(L)`: the XOR of every byte of a list, 0x00 of none (R120). -/
def xorFold (l : List Byte) : Byte := l.foldr (· ^^^ ·) 0x00

/-- `checksum(m, l, d) = xor_fold([m, l] ++ d)` (R121). -/
def checksum (m l : Byte) (d : List Byte) : Byte := xorFold ([m, l] ++ d)

/-- The frame checksum of an address operand and the port `WDATA`: the generator of ENC.WRITE and CSUM
(R123, R125). -/
def wdataChecksum (a : Addr) (s : State) : Byte := checksum (msb a) (lsb a) (wdataBytes s)

/-- `RESP_BUF[i]`. -/
abbrev respByte (i : Nat) (s : State) : Byte := readByte .respBuf i s

/-- `RESP_BUF[14..141]`: the 128 data bytes of a read response (R85, R179). -/
def respData (s : State) : List Byte := readBytes .respBuf 14 128 s

/-- The comparator's value, `xor_fold(RESP_BUF[12..141])`: over the echoed address bytes and the received data,
not over `LAT_ADDR` (R124). -/
def respChecksum (s : State) : Byte := xorFold (readBytes .respBuf 12 130 s)

/-- `card_type(X)` (R166). -/
def cardTypeOf (x : Byte) : CardType :=
  if x = 0x01 then .ps1 else if x = 0x02 then .ps2 else .unknown

/-- The ID signature (R171). -/
def signature : List Byte := [0x5A, 0x5D, 0x5C, 0x5D, 0x04, 0x00, 0x00, 0x80]

/-- `identity(W)`: the logical conjunction of eight byte equalities (R171). -/
def identityOf (w : List Byte) : Ident := if w = signature then .memoryCard else .unknown

/-- The control word an operation was presented with: what a block fault of it reports (R40). For a wire frame,
which has no control word and raises no block fault, the value is not used. -/
def presentedWord (i : Instr) : ControlWord :=
  match encode i with
  | .controlWord w => w
  | .frame _ => 0

/-- `CMD_BUF[0..CMD_LEN-1]`: the bytes the transport reads and sends (R143). -/
def commandBytes (s : State) : List Byte := readBytes .cmdBuf 0 s.cmdLen.toNat s

end Sys2Proof.Machine
end

