-- ==== Sys2Proof/Machine/Checksum.lean ====
section
/-! DEFINITION. The checksum operation CSUM (spec/41_checksum.md R125). -/

namespace Sys2Proof.Machine

/-- CSUM a: `CALC_CSUM <- checksum(msb(a), lsb(a), WDATA)`, whether or not an exchange is outstanding (R125). -/
def execCsum (a : Addr) (s : State) : Host.Outcome State Fault Refusal :=
  whenNotFaulted s <| .next (s.setCalcCsum (wdataChecksum a s))

end Sys2Proof.Machine
end

