-- ==== Sys2Proof/Machine/Flags.lean ====
section
/-! DEFINITION. The flag set of the block, `OUTCOME` (R31), and every check that sets a bit of it: the status
checks (R152 to R156), the field checks (R166, R171, R175 to R178, R186), Success (R158), and the ordered list
the Card Session reads from it (R159). -/

namespace Sys2Proof.Machine

/-- A TransferOutcome, by the bit of `OUTCOME` that records it (R31). -/
inductive Flag where
  | transportError
  | protocolError
  | authenticationFailed
  | commandAcknowledgeMismatch
  | addressEchoMismatch
  | checksumMismatch
  | memoryEndGood
  | memoryEndBadChecksum
  | memoryEndBadFrame
  | writeRejectedExecutingFile
  | writeRejectedProtectedRegion
  | success
  deriving DecidableEq, Repr

/-- The bit number of an outcome (R31). -/
def Flag.bit : Flag → Nat
  | .transportError => 0
  | .protocolError => 1
  | .authenticationFailed => 2
  | .commandAcknowledgeMismatch => 3
  | .addressEchoMismatch => 4
  | .checksumMismatch => 5
  | .memoryEndGood => 6
  | .memoryEndBadChecksum => 7
  | .memoryEndBadFrame => 8
  | .writeRejectedExecutingFile => 9
  | .writeRejectedProtectedRegion => 10
  | .success => 11

/-- `OUTCOME` with this bit alone. -/
def Flag.mask (f : Flag) : BitVec 12 := 1#12 <<< f.bit

/-- Whether `OUTCOME` records the outcome. -/
def Flag.isIn (f : Flag) (o : BitVec 12) : Bool := o.getLsbD f.bit

/-- The bit, where the check's condition holds. -/
def Flag.ifSo (f : Flag) (c : Bool) : BitVec 12 := if c then f.mask else 0

/-- `FAIL_MASK`: bits 0 to 5 and 7 to 10 (R31, R158). -/
def failMask : BitVec 12 := 0x7BF

/-- Success is recorded exactly when no failure is (R158). -/
def withSuccess (o : BitVec 12) : BitVec 12 :=
  if o &&& failMask = 0 then o ||| Flag.success.mask else o

/-- `status_checks(k)`: the first condition that holds, with the bit it sets and the cause it writes; `none` when
no check stops (R152 to R156). -/
def statusStop (k : Kind) (s : State) : Option (Flag × PErrCause) :=
  if s.xferErr = true then some (.transportError, .none)
  else if s.respLen.toNat < reqLenOf k then some (.protocolError, .length)
  else if respByte 0 s ≠ 0x55 then some (.protocolError, .adapterStatus)
  else if k ≠ .verify ∧ respByte 1 s = Config.pAuthFail then some (.authenticationFailed, .none)
  else if k ≠ .verify ∧ respByte 1 s ≠ 0x5A then some (.protocolError, .commandStatus)
  else none

/-- Acknowledge-pair check (R175). -/
def ackCheck (s : State) : BitVec 12 :=
  Flag.commandAcknowledgeMismatch.ifSo (respByte 10 s != 0x5C || respByte 11 s != 0x5D)

/-- Address-echo check against the address the command carried (R176). -/
def echoCheck (a : Addr) (s : State) : BitVec 12 :=
  Flag.addressEchoMismatch.ifSo (respByte 12 s != msb a || respByte 13 s != lsb a)

/-- Checksum check (R177). -/
def checksumCheck (s : State) : BitVec 12 :=
  Flag.checksumMismatch.ifSo (respByte 142 s != respChecksum s)

/-- The outcome of a read end byte and the cause it writes (R178). -/
def readEnd (e : Byte) : Flag × PErrCause :=
  if e = 0x47 then (.memoryEndGood, .none) else (.protocolError, .endByte)

/-- Write end-byte classification (R186, R87). -/
def writeEnd (e : Byte) : Flag × PErrCause :=
  if e = 0x47 then (.memoryEndGood, .none)
  else if e = 0x4E then (.memoryEndBadChecksum, .none)
  else if e = 0xFF then (.memoryEndBadFrame, .none)
  else if e = 0xFD then (.writeRejectedExecutingFile, .none)
  else if e = 0xFE then (.writeRejectedProtectedRegion, .none)
  else (.protocolError, .endByte)

/-- The kind's card-specific field checks, all evaluated on the same `RESP_BUF`, none stopping another (R157). -/
def fieldChecks (k : Kind) (a : Addr) (s : State) : Verdict :=
  match k with
  | .verify => ⟨0, .none, cardTypeOf (respByte 1 s), .none⟩
  | .getId => ⟨0, .none, .none, identityOf (readBytes .respBuf 6 8 s)⟩
  | .read =>
    ⟨ackCheck s ||| echoCheck a s ||| checksumCheck s ||| (readEnd (respByte 143 s)).1.mask,
      (readEnd (respByte 143 s)).2, .none, .none⟩
  | .write => ⟨(writeEnd (respByte 141 s)).1.mask, (writeEnd (respByte 141 s)).2, .none, .none⟩

/-- `o`, `pc`, `ct` and `id` of R151, before Success is decided. -/
def checks (k : Kind) (a : Addr) (s : State) : Verdict :=
  match statusStop k s with
  | some (f, c) => ⟨f.mask, c, .none, .none⟩
  | none => fieldChecks k a s

/-- The same, with Success decided (R158). -/
def Verdict.decided (v : Verdict) : Verdict := { v with outcome := withSuccess v.outcome }

/-- What DECODE finds out (R151, R158). -/
def verdict (k : Kind) (a : Addr) (s : State) : Verdict := (checks k a s).decided

/-- What DECODE writes to `RDATA` (R179). -/
def decodedData (k : Kind) (s : State) : List Byte :=
  match k with
  | .read => respData s
  | .verify | .getId | .write => List.replicate 128 0x00

/-- What DECODE writes to `CALC_CSUM` (R36, R124). -/
def decodedCsum (k : Kind) (s : State) : Byte :=
  match k with
  | .read => respChecksum s
  | .verify | .getId | .write => 0x00

/-- What DECODE writes to `END_BYTE` (R37). -/
def decodedEnd (k : Kind) (s : State) : Byte :=
  match k with
  | .read => respByte 143 s
  | .write => respByte 141 s
  | .verify | .getId => 0x00

/-- The outcome, where its bit is set. -/
def Flag.listed (f : Flag) (o : BitVec 12) : List Flag := if f.isIn o = true then [f] else []

/-- The ordered outcome list of an exchange, in check order: ProtocolError of a status check stands second,
ProtocolError of the end byte stands where the end-byte outcome does (R159). -/
def outcomeList (o : BitVec 12) (pc : PErrCause) : List Flag :=
  Flag.listed .transportError o
    ++ (if pc = .endByte then [] else Flag.listed .protocolError o)
    ++ Flag.listed .authenticationFailed o
    ++ Flag.listed .commandAcknowledgeMismatch o
    ++ Flag.listed .addressEchoMismatch o
    ++ Flag.listed .checksumMismatch o
    ++ Flag.listed .memoryEndGood o
    ++ Flag.listed .memoryEndBadChecksum o
    ++ Flag.listed .memoryEndBadFrame o
    ++ Flag.listed .writeRejectedExecutingFile o
    ++ Flag.listed .writeRejectedProtectedRegion o
    ++ (if pc = .endByte then Flag.listed .protocolError o else [])
    ++ Flag.listed .success o

end Sys2Proof.Machine
end

