-- ==== Sys2Proof/Machine/Decoder.lean ====
section
/-! DEFINITION. The decoder operation DECODE (spec/43_decoder.md). -/

namespace Sys2Proof.Machine

/-- The state after a DECODE whose checks passed (R151). -/
def decodedState (s : State) : State :=
  s.recordResults (verdict s.latKind s.latAddr s) (decodedData s.latKind s)
    (decodedCsum s.latKind s) (decodedEnd s.latKind s)

/-- DECODE (R150): no exchange outstanding, or no response delivered, is a block fault, in that order; otherwise
the results are written. -/
def execDecode (s : State) : Host.Outcome State Fault Refusal :=
  whenNotFaulted s <|
    if s.latValid = false then raiseFault .noExchange (presentedWord .decode) s
    else if s.respFull = false then raiseFault .noResponse (presentedWord .decode) s
    else .next (decodedState s)

end Sys2Proof.Machine
end

