-- ==== Sys2Proof/Machine/Encoder.lean ====
section
/-! DEFINITION. The encoder operations ENC.VERIFY, ENC.GETID, ENC.READ and ENC.WRITE (spec/40_encoder.md). -/

namespace Sys2Proof.Machine

/-- `ENC_common(k, a, frame)` of R100 for the operation presented as `cw`; `a` is the address the latch takes, 0
for VERIFY and GETID. An exchange still outstanding is a block fault (R100, R202, R234). -/
def encCommon (cw : ControlWord) (k : Kind) (a : Addr) (frame : List Byte) (s : State) :
    Host.Outcome State Fault Refusal :=
  whenNotFaulted s <|
    if s.latValid = true then raiseFault .exchangeOutstanding cw s
    else .next (s.openExchange k a frame)

/-- ENC.VERIFY (R101). -/
def execEncVerify (s : State) : Host.Outcome State Fault Refusal :=
  encCommon (presentedWord .encVerify) .verify 0 verifyFrame s

/-- ENC.GETID (R102). -/
def execEncGetid (s : State) : Host.Outcome State Fault Refusal :=
  encCommon (presentedWord .encGetid) .getId 0 getIdFrame s

/-- ENC.READ a (R103). -/
def execEncRead (a : Addr) (s : State) : Host.Outcome State Fault Refusal :=
  encCommon (presentedWord (.encRead a)) .read a (readFrame a) s

/-- ENC.WRITE a (R104): the checksum of the address and `WDATA` goes to `CMD_BUF[138]`; `CALC_CSUM` is not
written. -/
def execEncWrite (a : Addr) (s : State) : Host.Outcome State Fault Refusal :=
  encCommon (presentedWord (.encWrite a)) .write a
    (writeFrame a (wdataBytes s) (wdataChecksum a s)) s

end Sys2Proof.Machine
end

