-- ==== Sys2Proof/Machine/Wire.lean ====
section
/-! DEFINITION. The wire command frames: the transport reads `CMD_LEN` and `CMD_BUF[0..CMD_LEN-1]` and sends those
bytes in index order, once per exchange, after the ENC operation and before its HOST.DELIVER (R143). Nothing in
the block changes (R57, R63); the bytes go on the wire, byte 0 first (R53). -/

namespace Sys2Proof.Machine

/-- The transport may send `frame` now: a command is outstanding, its response has not been delivered, it has not
been sent, and `frame` is what `CMD_BUF[0..CMD_LEN-1]` holds (R143, R235). -/
def maySend (frame : List Byte) (s : State) : Bool :=
  s.latValid && !s.respFull && s.wire.isEmpty && frame == commandBytes s

/-- The transport sends `frame`. Anything R235 forbids has no move (93 U9): it is refused. A faulted block has no
step but reset (93 U14). -/
def sendFrame (frame : List Byte) (s : State) : Host.Outcome State Fault Refusal :=
  whenNotFaulted s <|
    if maySend frame s = true then .next (s.markSent frame) else .refused .transportBreach

/-- The VerifyCardType frame goes on the wire (R79, R143). -/
def execWireVerifyCardType (s : State) : Host.Outcome State Fault Refusal :=
  sendFrame verifyFrame s

/-- The GetId frame goes on the wire (R80, R143). -/
def execWireGetId (s : State) : Host.Outcome State Fault Refusal :=
  sendFrame getIdFrame s

/-- The ReadFrame frame for address `a` goes on the wire (R81, R143). -/
def execWireReadFrame (a : Addr) (s : State) : Host.Outcome State Fault Refusal :=
  sendFrame (readFrame a) s

/-- The WriteFrame frame for address `a`, data `d` and checksum byte `c` goes on the wire (R82, R143). -/
def execWireWriteFrame (a : Addr) (d : List Byte) (c : Byte) (s : State) :
    Host.Outcome State Fault Refusal :=
  sendFrame (writeFrame a d c) s

end Sys2Proof.Machine
end

