-- ==== Sys2Proof/Machine/Dispatch.lean ====
section
/-! DEFINITION. One arm per constructor of `Instr`. -/

namespace Sys2Proof.Machine

-- The operations of the control-word port (R71), then the wire command frames (R79 to R82).
def exec (i : Instr) (s : State) : Host.Outcome State Fault Refusal :=
  match i with
  | .encVerify => Sys2Proof.Machine.execEncVerify s
  | .encGetid => Sys2Proof.Machine.execEncGetid s
  | .encRead a => Sys2Proof.Machine.execEncRead a s
  | .encWrite a => Sys2Proof.Machine.execEncWrite a s
  | .decode => Sys2Proof.Machine.execDecode s
  | .csum a => Sys2Proof.Machine.execCsum a s
  | .wireVerifyCardType => Sys2Proof.Machine.execWireVerifyCardType s
  | .wireGetId => Sys2Proof.Machine.execWireGetId s
  | .wireReadFrame a => Sys2Proof.Machine.execWireReadFrame a s
  | .wireWriteFrame a data checksum => Sys2Proof.Machine.execWireWriteFrame a data checksum s

end Sys2Proof.Machine
end

