-- ==== Sys2Proof/Machine/HostPort.lean ====
section
/-! DEFINITION. What the outside does to the block: the control-word port (R70), HOST.DELIVER (R140 to R142), the
transport's send (R143), host reads (R42, R50), the write-data port (R76), the reset input (R230). -/

namespace Sys2Proof.Machine

/-- The most bytes `RESP_BUF` holds (`BUF_BYTES`, R4). -/
def bufBytes : Nat := 144

/-- A control word at the port: a legal one runs its operation, an illegal one is a block fault with the word as
its information (R74, R201). Whether the block is faulted comes first (R205). -/
def presentControlWord (w : ControlWord) (s : State) : Host.Outcome State Fault Refusal :=
  match decode (.controlWord w) with
  | .instr i => exec i s
  | .reject _ => whenNotFaulted s (raiseFault .illegalOp w s)

/-- The checks of HOST.DELIVER in the order of R141, each a block fault with `FAULT_INFO = zext_16(n)`, then its
writes (R142). -/
def deliver (n : BitVec 8) (r : List Byte) (err : Bool) (s : State) :
    Host.Outcome State Fault Refusal :=
  whenNotFaulted s <|
    if bufBytes < n.toNat then raiseFault .badRespLen (n.setWidth 16) s
    else if s.latValid = false then raiseFault .unexpectedResponse (n.setWidth 16) s
    else if s.respFull = true then raiseFault .responseOverrun (n.setWidth 16) s
    else .next (s.receive r err)

/-- HOST.DELIVER(n, r, err) with `n` the number of bytes of `r`, which the port gives 8 bits (R140). -/
def hostDeliver (r : List Byte) (err : Bool) (s : State) : Host.Outcome State Fault Refusal :=
  if r.length ≤ 255 then deliver (BitVec.ofNat 8 r.length) r err s else .refused .beyondPort

/-- The transport's send: it takes `CMD_BUF[0..CMD_LEN-1]`, which is the command the block built, recognised by
its first bytes (R88, R143). -/
def transportSend (s : State) : Host.Outcome State Fault Refusal :=
  match decode (.frame (commandBytes s)) with
  | .instr i => exec i s
  | .reject _ => whenNotFaulted s (.refused .noCommandFrame)

/-- What a host read names exists: every register, and every index inside its space (R50). -/
def HostRead.exists? : HostRead → Bool
  | .reg _ => true
  | .byte sp i => decide (i < sp.size)

/-- A host read: no side effect, at any time, on a faulted block too (R42, R57, R204). The value is that of
`readReg` or `readByte`. -/
def hostRead (r : HostRead) (s : State) : Host.Outcome State Fault Refusal :=
  if r.exists? = true then .next s else .refused .noSuchIndex

/-- One input, taken by the block. Driving `WDATA` is no step of the block: the port takes the value at any
time (R41). -/
def present (e : Input) (s : State) : Host.Outcome State Fault Refusal :=
  match e with
  | .control w => presentControlWord w s
  | .drive d => .next (s.driveWdata d)
  | .deliver r err => hostDeliver r err s
  | .send => transportSend s
  | .read r => hostRead r s
  | .reset => .next s.resetFrom

/-- The first input that is still to be presented, taken by the block. With nothing presented the block does
nothing: it has no program of its own (R21). -/
def runNext (s : State) : Host.Outcome State Fault Refusal :=
  match s.inputs with
  | [] => .next s
  | e :: rest => present e (s.withInputs rest)

/-- The exchange whose command frame this is: the kind and the address the ENC operation that builds it latches
(R24). -/
def exchangeOfFrame (b : List Byte) : Kind × Addr :=
  match decode (.frame b) with
  | .instr .wireGetId => (.getId, 0)
  | .instr (.wireReadFrame a) => (.read, a)
  | .instr (.wireWriteFrame a _ _) => (.write, a)
  | _ => (.verify, 0)

/-- The state in which the next step runs the instruction that stands there: its control word is presented
next; or its frame stands in `CMD_BUF` as the command of an open exchange, and the transport sends next. -/
def State.placeFetched (s : State) : Fetched → State
  | .controlWord w => s.withInputs (.control w :: s.inputs)
  | .frame b =>
    (s.openExchange (exchangeOfFrame b).1 (exchangeOfFrame b).2 b).withInputs (.send :: s.inputs)

end Sys2Proof.Machine
end

