-- ==== Sys2Proof/Machine/Step.lean ====
section
/-! DEFINITION. One step of the machine, and where the host's table words are put. -/

namespace Sys2Proof.Machine

/-- One step: the next input in the total order of R60. -/
def step (s : State) : Host.Outcome State Fault Refusal := runNext s

/-- The state whose next step runs the instruction whose table bits are `w`. -/
def State.withFetchWord (s : State) (nbits w : Nat) : State := s.placeFetched (tableFetch nbits w)

end Sys2Proof.Machine
end

