-- ==== Sys2Proof/Safety.lean ====
section
/-! DEFINITION. What the claims call a sound state of the block: the canonical form of its spaces, an exchange
whose command is the one its latch names, and results that are those of some decode. -/

namespace Sys2Proof.Machine

/-- Every space is in canonical form, inside its size (R4, R50), and the draws of the last reset have all been
taken. -/
structure State.MemoryForm (s : State) : Prop where
  cmdBuf : Memory.wf 144 s.cmdBuf = true
  respBuf : Memory.wf 144 s.respBuf = true
  rdata : Memory.wf 128 s.rdata = true
  wdata : Memory.wf 128 s.wdata = true
  draws : s.resetDraw + resetDraws ≤ s.draws

/-- The command frame of a kind, an address and write data, as R79 to R82 lay it out. -/
def commandFrame : Kind → Addr → List Byte → List Byte
  | .verify, _, _ => verifyFrame
  | .getId, _, _ => getIdFrame
  | .read, a, _ => readFrame a
  | .write, a, d => writeFrame a d (checksum (msb a) (lsb a) d)

/-- VERIFY and GETID carry no address: the latch holds 0 (R24). -/
def addressFits (k : Kind) (a : Addr) : Prop := (k = .verify ∨ k = .getId) → a = 0

/-- `CMD_BUF` holds, as a whole, the command that the latch names, padded with 0x00, and `CMD_LEN` is its
length (R22, R23, R24). -/
structure State.CommandBuilt (s : State) (d : List Byte) : Prop where
  dataLength : d.length = 128
  length : s.cmdLen.toNat = cmdLenOf s.latKind
  bytes : ∀ i < 144, readByte .cmdBuf i s = (commandFrame s.latKind s.latAddr d).getD i 0x00

/-- The exchange registers are sound: nothing has been built since reset and no exchange is open, or the buffer
holds the latched command; a response waits only inside an exchange (R61); a response never exceeds `RESP_BUF`
(R27); what is on the wire is that command (R143). -/
structure State.ExchangeForm (s : State) : Prop where
  command : (s.cmdLen = 0 ∧ s.latValid = false ∧ s.latKind = .verify ∧ s.wire = []) ∨
    ∃ d, s.CommandBuilt d
  address : addressFits s.latKind s.latAddr
  waiting : s.respFull = true → s.latValid = true
  respLen : s.respLen.toNat ≤ 144
  wire : s.wire = [] ∨ s.wire = commandBytes s

/-- How many of the end-byte bits 6 to 10 are set. -/
def endBits (o : BitVec 12) : Nat :=
  ([6, 7, 8, 9, 10].filter fun i => o.getLsbD i).length

/-- What the result registers hold after some decode (R30 to R34, R38, R158), or the zeros of reset. -/
structure State.ResultForm (s : State) : Prop where
  reset : s.resValid = false → s.outcome = 0 ∧ s.resKind = .verify ∧ s.resAddr = 0
  success : s.resValid = true → (Flag.success.isIn s.outcome = true ↔ s.outcome &&& failMask = 0)
  oneEndByte : endBits s.outcome ≤ 1
  perrCause : s.perrCause ≠ .none ↔ Flag.protocolError.isIn s.outcome = true
  fatal : s.fatal = fatalOf s.outcome
  cardType : s.cardType ≠ .none ↔ s.resValid = true ∧ s.resKind = .verify ∧ s.outcome = 0x800
  ident : s.ident ≠ .none ↔ s.resValid = true ∧ s.resKind = .getId ∧ s.outcome = 0x800
  address : addressFits s.resKind s.resAddr
  rdata : s.resValid = true → s.resKind ≠ .read → ∀ i < 128, readByte .rdata i s = 0x00
  endByte : s.resKind = .verify ∨ s.resKind = .getId → s.endByte = 0x00

/-- A block that is not faulted has no fault information; R39 and R40 write the two together. -/
def State.FaultForm (s : State) : Prop := s.faultCause = .none → s.faultInfo = 0

/-- Only the two fault registers differ (R203). -/
def onlyFaultRegisters (s t : State) : Prop :=
  t = { s with faultCause := t.faultCause, faultInfo := t.faultInfo }

/-- The result registers of R30 to R38, but for `CALC_CSUM`, are the same, `RDATA` byte for byte. -/
def sameResults (s t : State) : Prop :=
  t.resValid = s.resValid ∧ t.resKind = s.resKind ∧ t.resAddr = s.resAddr ∧ t.outcome = s.outcome ∧
  t.perrCause = s.perrCause ∧ t.cardType = s.cardType ∧ t.ident = s.ident ∧
  (∀ i, readByte .rdata i t = readByte .rdata i s) ∧ t.endByte = s.endByte ∧ t.fatal = s.fatal

/-- The command registers and `CMD_BUF` are the same, byte for byte (R22 to R24). -/
def sameCommand (s t : State) : Prop :=
  (∀ i, readByte .cmdBuf i t = readByte .cmdBuf i s) ∧ t.cmdLen = s.cmdLen ∧
  t.latKind = s.latKind ∧ t.latAddr = s.latAddr

/-- The response registers and `RESP_BUF` are the same, byte for byte (R26 to R28). -/
def sameResponse (s t : State) : Prop :=
  (∀ i, readByte .respBuf i t = readByte .respBuf i s) ∧ t.respLen = s.respLen ∧
  t.xferErr = s.xferErr

/-- The ports and what the outside will present are the same. -/
def samePorts (s t : State) : Prop := t.wdata = s.wdata ∧ t.inputs = s.inputs

/-- The fault registers are the same. -/
def sameFault (s t : State) : Prop := t.faultCause = s.faultCause ∧ t.faultInfo = s.faultInfo

/-- The block is not faulted and no exchange is outstanding: an ENC operation may come (R61). -/
def State.idle (s : State) : Prop := s.faultCause = .none ∧ s.latValid = false

/-- The block is not faulted, and an exchange of kind `k` is outstanding whose response waits: DECODE may
come (R61). -/
def State.readyToDecode (s : State) (k : Kind) : Prop :=
  s.faultCause = .none ∧ s.latValid = true ∧ s.respFull = true ∧ s.latKind = k

/-- The status checks of a long command have passed: no transport failure, enough bytes, and the two status
bytes at their expected values (R152 to R156). -/
def longStatusPassed (s : State) (k : Kind) : Prop :=
  s.xferErr = false ∧ reqLenOf k ≤ s.respLen.toNat ∧ readByte .respBuf 0 s = 0x55 ∧
  readByte .respBuf 1 s = 0x5A

/-- The ENC operation that builds a command of kind `k` for address `a` (R101 to R104). -/
def encOp : Kind → Addr → Instr
  | .verify, _ => .encVerify
  | .getId, _ => .encGetid
  | .read, a => .encRead a
  | .write, a => .encWrite a

/-- What ENC latches in `LAT_ADDR`: `(k == READ or k == WRITE) ? a : 0` (R100). -/
def latchedAddr : Kind → Addr → Addr
  | .verify, _ => 0
  | .getId, _ => 0
  | .read, a => a
  | .write, a => a

/-- The wire row that is the command of kind `k` (R88). -/
def wireOp : Kind → Addr → List Byte → Instr
  | .verify, _, _ => .wireVerifyCardType
  | .getId, _, _ => .wireGetId
  | .read, a, _ => .wireReadFrame a
  | .write, a, d => .wireWriteFrame a d (checksum (msb a) (lsb a) d)

/-- The place of an outcome in the ordered list of R159: the order of the checks. ProtocolError stands with the
status checks, or with the end byte when its cause is END_BYTE. -/
def checkPlace (pc : PErrCause) : Flag → Nat
  | .transportError => 0
  | .protocolError => if pc = .endByte then 6 else 1
  | .authenticationFailed => 2
  | .commandAcknowledgeMismatch => 3
  | .addressEchoMismatch => 4
  | .checksumMismatch => 5
  | .memoryEndGood => 6
  | .memoryEndBadChecksum => 6
  | .memoryEndBadFrame => 6
  | .writeRejectedExecutingFile => 6
  | .writeRejectedProtectedRegion => 6
  | .success => 7

/-- The bytes of a response that some rule reads, by kind (R83 to R86: the rows whose last column names a rule,
and the data bytes of a read). -/
def checkedByte : Kind → Nat → Bool
  | .verify, i => i < 2
  | .getId, i => i < 2 || (6 ≤ i && i < 14)
  | .read, i => i < 2 || (10 ≤ i && i < 144)
  | .write, i => i < 2 || i == 141

/-- Nothing but the fault registers changes, and they say ILLEGAL_OP for this word (R74, R203). -/
def raisesIllegalOp (w : ControlWord) (s : State) : Prop :=
  present (.control w) s = .next { s with faultCause := .illegalOp, faultInfo := w }

/-- Inputs presented one after another. -/
def presentAll : List Input → State → Host.Outcome State Fault Refusal
  | [], s => .next s
  | e :: es, s =>
    match present e s with
    | .next t => presentAll es t
    | .fault f => .fault f
    | .refused r => .refused r

end Sys2Proof.Machine
end

