-- ==== Sys2Proof/Certificates/Slice0/Obligations.lean ====
section
/-! DEFINITION. What this model claims, each a statement for the provers. -/

open Sys2Proof Sys2Proof.Machine

/-! ## Encoding -/

/-- A few words and frames, written out from R70, R71, R79 and R80 and the vectors E1 to E21, decode as the spec
says. -/
def Obligations.SpecWordsDecode : Prop :=
  decodeControlWord 0b000_0000000000_000#16 = .instr .encVerify ∧
  decodeControlWord 0b000_0000000000_001#16 = .instr .encGetid ∧
  decodeControlWord 0b000_0101010101_010#16 = .instr (.encRead 0x155) ∧
  decodeControlWord 0b000_1111111111_011#16 = .instr (.encWrite 1023) ∧
  decodeControlWord 0b000_0000000000_100#16 = .instr .decode ∧
  decodeControlWord 0b000_1111111111_101#16 = .instr (.csum 1023) ∧
  decodeControlWord 0b000_0000000000_110#16 = .reject .reservedOp ∧
  decodeControlWord 0b000_0000000001_000#16 = .reject .strayAddress ∧
  decodeControlWord 0b001_0000000000_010#16 = .reject .reservedField ∧
  decodeFrame [0xAA, 0x40] = .instr .wireVerifyCardType ∧
  decodeFrame [0xAA, 0x42, 0x0A, 0x00, 0x81, 0x53, 0x00, 0x00, 0x00, 0x00, 0x00, 0x00, 0x00, 0x00] =
    .instr .wireGetId

/-- R74, whole: which control words are legal, that these are the words that decode, how many there are, and
what an illegal one does. -/
def Obligations.LegalControlWords : Prop :=
  (∀ w, legal w = true ↔ (w.extractLsb' 13 3 = 0 ∧ (w.extractLsb' 0 3).toNat ≤ 5 ∧
    (w.extractLsb' 0 3 = 2 ∨ w.extractLsb' 0 3 = 3 ∨ w.extractLsb' 0 3 = 5 ∨
      w.extractLsb' 3 10 = 0))) ∧
  (∀ w, legal w = true ↔ ∃ i, decode (.controlWord w) = .instr i) ∧
  (∀ w, legal w = true ↔ (w = 0x0000 ∨ w = 0x0001 ∨ w = 0x0004 ∨
    ∃ a : Addr, w = (a.setWidth 16 <<< 3) ||| 2 ∨ w = (a.setWidth 16 <<< 3) ||| 3 ∨
      w = (a.setWidth 16 <<< 3) ||| 5)) ∧
  ((List.range 65536).filter fun n => legal (BitVec.ofNat 16 n)).length = 3075 ∧
  (∀ w s, s.faultCause = .none → legal w = false → raisesIllegalOp w s)

/-- Decoding what the encoder writes gives the instruction back, for every well-formed instruction. -/
def Obligations.DecodeOfEncode : Prop :=
  ∀ i : Instr, i.wf = true → decode (encode i) = .instr i

/-- What decodes is the encoding of the instruction it decodes to, and that instruction is well-formed: no bit
of a control word is left unread (R70 to R75). That no byte of a frame is left unread either is the model's
choice: the frame decoder asks for every constant and zero of a layout (log entry 14), where R88 recognises a
frame that the block built by its first bytes alone. -/
def Obligations.EncodeOfDecode : Prop :=
  ∀ (f : Fetched) (i : Instr), decode f = .instr i → encode i = f ∧ i.wf = true

/-- R9, whole: the two bytes of a frame address. -/
def Obligations.AddressBytes : Prop :=
  ∀ a : Addr, (msb a).toNat = a.toNat / 256 ∧ (lsb a).toNat = a.toNat % 256 ∧
    msb a = (a.extractLsb' 8 2).setWidth 8 ∧ lsb a = a.extractLsb' 0 8 ∧
    ((msb a).setWidth 10 <<< 8) ||| (lsb a).setWidth 10 = a

/-- The assembler lines of R90 that have a control word: the mnemonic of an operation, with its address where it
has one, gives the word that decodes to that operation; an address above 1023 is not assembled. -/
def Obligations.AssemblerWords : Prop :=
  (∀ i : Instr, i = .encVerify ∨ i = .encGetid ∨ i = .decode →
    (assemble i.mnemonic none).map (fun w => decode (.controlWord w)) = some (.instr i)) ∧
  (∀ (a : Addr) (i : Instr), i = .encRead a ∨ i = .encWrite a ∨ i = .csum a →
    (assemble i.mnemonic (some a.toNat)).map (fun w => decode (.controlWord w)) = some (.instr i)) ∧
  (∀ (m : String) (n : Nat), 1023 < n → assemble m (some n) = none)

/-! ## The step -/

/-- One step is the first input, whichever it is, taken by the block with that input off the list: of a control
word, `exec` of the instruction it decodes to; of a send, `exec` of the instruction that the command bytes of
`CMD_BUF` decode to. An illegal control word is a block fault. That inputs stand in a list is the model's choice
(log entry 1). -/
def Obligations.StepRunsTheDecodedInstruction : Prop :=
  (∀ s w rest i, s.inputs = .control w :: rest → decode (.controlWord w) = .instr i →
    step s = exec i { s with inputs := rest }) ∧
  (∀ s rest i, s.inputs = .send :: rest → decode (.frame (commandBytes s)) = .instr i →
    step s = exec i { s with inputs := rest }) ∧
  (∀ s w rest why, s.inputs = .control w :: rest → decode (.controlWord w) = .reject why →
    s.faultCause = .none →
    step s = .next { s with inputs := rest, faultCause := .illegalOp, faultInfo := w }) ∧
  (∀ s e rest, s.inputs = e :: rest → step s = present e { s with inputs := rest }) ∧
  (∀ s, s.inputs = [] → step s = .next s)

/-- Where the host puts an instruction by its table bits, the very next step runs it (the model's own
convention: log entries 1 and 10). -/
def Obligations.FetchWordIsRunNext : Prop :=
  ∀ (s : State) (nbits w : Nat) (i : Instr), decodeTableWord nbits w = some i →
    step (s.withFetchWord nbits w) = exec i { s.withFetchWord nbits w with inputs := s.inputs }

/-! ## The encoder operations -/

/-- R101, whole. What the step does to the model's own record of the wire (log entry 8) is left open here. -/
def Obligations.EncVerifyBuildsItsCommand : Prop :=
  (∀ w, decode (.controlWord w) = .instr .encVerify ↔ w = 0x0000) ∧
  ∀ s, s.faultCause = .none →
    (s.latValid = false → ∃ t, exec .encVerify s = .next t ∧ t = { s with
      cmdBuf := Memory.ofBytes ([0xAA, 0x40] ++ List.replicate 142 0x00)
      cmdLen := 2
      latKind := .verify
      latAddr := 0
      latValid := true
      respFull := false
      wire := t.wire }) ∧
    (s.latValid = true → exec .encVerify s =
      .next { s with faultCause := .exchangeOutstanding, faultInfo := 0x0000 }) ∧
    (∀ w, cwOp w = 0 → w ≠ 0x0000 → raisesIllegalOp w s)

/-- R102, whole. What the step does to the model's own record of the wire (log entry 8) is left open here. -/
def Obligations.EncGetidBuildsItsCommand : Prop :=
  (∀ w, decode (.controlWord w) = .instr .encGetid ↔ w = 0x0001) ∧
  ∀ s, s.faultCause = .none →
    (s.latValid = false → ∃ t, exec .encGetid s = .next t ∧ t = { s with
      cmdBuf := Memory.ofBytes ([0xAA, 0x42, 0x0A, 0x00, 0x81, 0x53, 0x00, 0x00, 0x00, 0x00, 0x00,
        0x00, 0x00, 0x00] ++ List.replicate 130 0x00)
      cmdLen := 14
      latKind := .getId
      latAddr := 0
      latValid := true
      respFull := false
      wire := t.wire }) ∧
    (s.latValid = true → exec .encGetid s =
      .next { s with faultCause := .exchangeOutstanding, faultInfo := 0x0001 }) ∧
    (∀ w, cwOp w = 1 → w ≠ 0x0001 → raisesIllegalOp w s)

/-- R103, whole. What the step does to the model's own record of the wire (log entry 8) is left open here. -/
def Obligations.EncReadBuildsItsCommand : Prop :=
  ∀ a : Addr,
    (∀ w, decode (.controlWord w) = .instr (.encRead a) ↔ w = (a.setWidth 16 <<< 3) ||| 2) ∧
    ∀ s, s.faultCause = .none →
      (s.latValid = false → ∃ t, exec (.encRead a) s = .next t ∧ t = { s with
        cmdBuf := Memory.ofBytes ([0xAA, 0x42, 0x8C, 0x00, 0x81, 0x52, 0x00, 0x00, msb a, lsb a] ++
          List.replicate 134 0x00)
        cmdLen := 144
        latKind := .read
        latAddr := a
        latValid := true
        respFull := false
        wire := t.wire }) ∧
      (s.latValid = true → exec (.encRead a) s = .next { s with
        faultCause := .exchangeOutstanding, faultInfo := (a.setWidth 16 <<< 3) ||| 2 }) ∧
      (∀ w, cwOp w = 2 → w.extractLsb' 13 3 ≠ 0 → raisesIllegalOp w s)

/-- R104, whole. What the step does to the model's own record of the wire (log entry 8) is left open here. -/
def Obligations.EncWriteBuildsItsCommand : Prop :=
  ∀ a : Addr,
    (∀ w, decode (.controlWord w) = .instr (.encWrite a) ↔ w = (a.setWidth 16 <<< 3) ||| 3) ∧
    ∀ s, s.faultCause = .none →
      (s.latValid = false → ∃ t, exec (.encWrite a) s = .next t ∧ t = { s with
        cmdBuf := Memory.ofBytes ([0xAA, 0x42, 0x8A, 0x00, 0x81, 0x57, 0x00, 0x00, msb a, lsb a] ++
          wdataBytes s ++ [xorFold ([msb a, lsb a] ++ wdataBytes s), 0x00, 0x00, 0x00] ++
          [0x00, 0x00])
        cmdLen := 142
        latKind := .write
        latAddr := a
        latValid := true
        respFull := false
        wire := t.wire }) ∧
      (s.latValid = true → exec (.encWrite a) s = .next { s with
        faultCause := .exchangeOutstanding, faultInfo := (a.setWidth 16 <<< 3) ||| 3 }) ∧
      (∀ w, cwOp w = 3 → w.extractLsb' 13 3 ≠ 0 → raisesIllegalOp w s)

/-- R100, whole, for the four ENC operations: what they write, read back byte by byte, and their frame: no
result register, no `RESP_BUF` byte, `RESP_LEN` or `XFER_ERR`, no port, no fault register. -/
def Obligations.EncCommonEffectAndFrame : Prop :=
  ∀ (k : Kind) (a : Addr),
    (cwOp (presentedWord (encOp k a))).extractLsb' 0 2 = k.code ∧
    ∀ s, s.faultCause = .none →
      (s.latValid = false → ∃ t, exec (encOp k a) s = .next t ∧
        (∀ j < 144, readByte .cmdBuf j t = (commandFrame k a (wdataBytes s)).getD j 0x00) ∧
        (commandFrame k a (wdataBytes s)).length = cmdLenOf k ∧
        t.cmdLen.toNat = cmdLenOf k ∧ t.latKind = k ∧ t.latAddr = latchedAddr k a ∧
        t.latValid = true ∧ t.respFull = false ∧
        sameResults s t ∧ t.calcCsum = s.calcCsum ∧ sameResponse s t ∧ samePorts s t ∧
        sameFault s t) ∧
      (s.latValid = true → exec (encOp k a) s = .next { s with
        faultCause := .exchangeOutstanding, faultInfo := presentedWord (encOp k a) })

/-- R105, whole: from any two states in which an ENC operation runs, with the same write data, it writes the same
144 bytes and the same length. -/
def Obligations.EncIsAFunctionOfItsOperands : Prop :=
  ∀ (k : Kind) (a : Addr) (s s' : State), s.idle → s'.idle → (k = .write → wdataBytes s = wdataBytes s') →
    ∃ t t', exec (encOp k a) s = .next t ∧ exec (encOp k a) s' = .next t' ∧
      readBytes .cmdBuf 0 144 t = readBytes .cmdBuf 0 144 t' ∧ t.cmdLen = t'.cmdLen

/-! ## The checksum -/

/-- R122, whole ((a) is the type of the result). -/
def Obligations.ChecksumLaws : Prop :=
  (∀ l l' : List Byte, l.Perm l' → xorFold l = xorFold l') ∧
  (∀ (m l : Byte) (d d' : List Byte), d.Perm d' →
    checksum m l d = checksum m l d' ∧ checksum m l d = checksum l m d) ∧
  (∀ (l : List Byte) (i : Nat) (x y : Byte), l[i]? = some x →
    xorFold (l.set i y) = xorFold l ^^^ (x ^^^ y)) ∧
  (∀ (l : List Byte) (b : Byte), xorFold (b :: b :: l) = xorFold l) ∧
  (∀ b : Byte, xorFold (List.replicate 128 b) = 0x00) ∧
  checksum 0x00 0x00 (List.replicate 128 0x00) = 0x00 ∧
  (∀ s : State, readByte .respBuf 142 s = xorFold (readBytes .respBuf 12 130 s) →
    xorFold (readBytes .respBuf 12 131 s) = 0x00)

/-- R123, whole: the generator. -/
def Obligations.EncWriteGeneratesTheChecksum : Prop :=
  ∀ (a : Addr) (s : State), s.idle → ∃ t, exec (.encWrite a) s = .next t ∧
    readByte .cmdBuf 138 t = checksum (msb a) (lsb a) (wdataBytes s) ∧
    readByte .cmdBuf 138 t = xorFold (readBytes .cmdBuf 8 130 t)

/-- R125, whole. -/
def Obligations.CsumWritesCalcCsumOnly : Prop :=
  ∀ a : Addr,
    (∀ w, decode (.controlWord w) = .instr (.csum a) ↔ w = (a.setWidth 16 <<< 3) ||| 5) ∧
    ∀ s, s.faultCause = .none →
      exec (.csum a) s = .next { s with calcCsum := xorFold ([msb a, lsb a] ++ wdataBytes s) } ∧
      (∀ t, exec (.csum a) s = .next t → exec (.csum a) t = .next t) ∧
      (∀ w, cwOp w = 5 → w.extractLsb' 13 3 ≠ 0 → raisesIllegalOp w s)

/-- CSUM and the four wire frames store to no space: every byte of the three spaces reads as before, and so does
every register but the one they write. -/
def Obligations.RegisterOnlyInstructionsKeepMemory : Prop :=
  ∀ (i : Instr) (s t : State), exec i s = .next t →
    ((∃ a, i = .csum a) ∨ i = .wireVerifyCardType ∨ i = .wireGetId ∨ (∃ a, i = .wireReadFrame a) ∨
      ∃ a d c, i = .wireWriteFrame a d c) →
    (∀ sp j, readByte sp j t = readByte sp j s) ∧ sameCommand s t ∧ sameResponse s t ∧
    sameResults s t ∧ samePorts s t ∧ sameFault s t ∧ t.latValid = s.latValid ∧
    t.respFull = s.respFull ∧ ((∀ a, i ≠ .csum a) → t.calcCsum = s.calcCsum)

/-- The write-data port: the 128 bytes driven are what ENC.WRITE and CSUM then sample, and the block's
registers and spaces do not change (R41, R76). -/
def Obligations.WdataPortHoldsWhatIsDriven : Prop :=
  ∀ (d : Vector Byte 128) (s : State), ∃ t, present (.drive d) s = .next t ∧
    wdataBytes t = d.toList ∧ (∀ a, wdataChecksum a t = checksum (msb a) (lsb a) d.toList) ∧
    t = { s with wdata := t.wdata }

/-! ## The wire -/

/-- The transport's send of each command frame runs when the frame is the outstanding command, not yet answered
and not yet sent, and changes nothing of the block: the bytes are on the wire, byte 0 first. That the wire is
recorded at all is the model's choice (log entry 8). -/
def Obligations.SendPutsTheCommandOnTheWire : Prop :=
  ∀ s, s.faultCause = .none → s.latValid = true → s.respFull = false → s.wire = [] →
    (commandBytes s = [0xAA, 0x40] →
      exec .wireVerifyCardType s = .next { s with wire := [0xAA, 0x40] }) ∧
    (commandBytes s =
        [0xAA, 0x42, 0x0A, 0x00, 0x81, 0x53, 0x00, 0x00, 0x00, 0x00, 0x00, 0x00, 0x00, 0x00] →
      exec .wireGetId s = .next { s with
        wire :=
          [0xAA, 0x42, 0x0A, 0x00, 0x81, 0x53, 0x00, 0x00, 0x00, 0x00, 0x00, 0x00, 0x00, 0x00] }) ∧
    (∀ a : Addr, commandBytes s = [0xAA, 0x42, 0x8C, 0x00, 0x81, 0x52, 0x00, 0x00, msb a, lsb a] ++
        List.replicate 134 0x00 →
      exec (.wireReadFrame a) s = .next { s with
        wire := [0xAA, 0x42, 0x8C, 0x00, 0x81, 0x52, 0x00, 0x00, msb a, lsb a] ++
          List.replicate 134 0x00 }) ∧
    (∀ (a : Addr) (d : List Byte) (c : Byte), commandBytes s =
        [0xAA, 0x42, 0x8A, 0x00, 0x81, 0x57, 0x00, 0x00, msb a, lsb a] ++ d ++
          [c, 0x00, 0x00, 0x00] →
      exec (.wireWriteFrame a d c) s = .next { s with
        wire := [0xAA, 0x42, 0x8A, 0x00, 0x81, 0x57, 0x00, 0x00, msb a, lsb a] ++ d ++
          [c, 0x00, 0x00, 0x00] })

/-- After an ENC operation the transport finds in `CMD_BUF[0..CMD_LEN-1]` the frame of R79 to R82 for that kind,
address and write data, it is the wire row of that kind, and sending it puts exactly that frame on the
wire. -/
def Obligations.SendAfterEncSendsTheBuiltCommand : Prop :=
  ∀ (k : Kind) (a : Addr) (s : State), s.idle → ∃ t, exec (encOp k a) s = .next t ∧
    commandBytes t = commandFrame k a (wdataBytes s) ∧
    decode (.frame (commandBytes t)) = .instr (wireOp k a (wdataBytes s)) ∧
    present .send t = .next { t with wire := commandFrame k a (wdataBytes s) }

/-- A send that R143 or R235 forbids has no move: with no command outstanding, after the response was delivered,
a second time, or of other bytes (93 U9: refuse). A send while `CMD_BUF` holds no command is refused too, and a
faulted block has no send (93 U14). That a send is a move at all is the model's choice (log entry 8). -/
def Obligations.ForbiddenSendsAreRefused : Prop :=
  (∀ (k : Kind) (a : Addr) (d : List Byte) (s : State), s.faultCause = .none →
    (s.latValid = false ∨ s.respFull = true ∨ s.wire ≠ [] ∨
      commandBytes s ≠ commandFrame k a d) →
    exec (wireOp k a d) s = .refused .transportBreach) ∧
  (∀ s, s.faultCause = .none → s.cmdLen = 0 → present .send s = .refused .noCommandFrame) ∧
  (∀ s, s.faultCause ≠ .none → present .send s = .fault .stuck ∧
    ∀ k a d, exec (wireOp k a d) s = .fault .stuck)

/-! ## The response port -/

/-- R141, whole: the checks of HOST.DELIVER in their order. -/
def Obligations.DeliverChecks : Prop :=
  ∀ (r : List Byte) (e : Bool) (s : State), r.length ≤ 255 →
    (s.faultCause = .none →
      (144 < r.length → present (.deliver r e) s =
        .next { s with faultCause := .badRespLen, faultInfo := BitVec.ofNat 16 r.length }) ∧
      (r.length ≤ 144 → s.latValid = false → present (.deliver r e) s =
        .next { s with faultCause := .unexpectedResponse, faultInfo := BitVec.ofNat 16 r.length }) ∧
      (r.length ≤ 144 → s.latValid = true → s.respFull = true → present (.deliver r e) s =
        .next { s with faultCause := .responseOverrun, faultInfo := BitVec.ofNat 16 r.length })) ∧
    (s.faultCause ≠ .none → present (.deliver r e) s = .fault .stuck)

/-- What HOST.DELIVER writes (R142): the bytes delivered, a new draw for every byte past them, the length, the
error flag, and no other register. That a draw is a byte of the stream `Config.draw`, taken by the counter
`draws`, is the model's choice (log entry 3). -/
def Obligations.DeliverWritesTheResponse : Prop :=
  ∀ (r : List Byte) (e : Bool) (s : State), s.faultCause = .none → r.length ≤ 144 →
    s.latValid = true → s.respFull = false →
    ∃ t, present (.deliver r e) s = .next t ∧
      (∀ i (h : i < r.length), readByte .respBuf i t = r[i]) ∧
      (∀ i, r.length ≤ i → i < 144 →
        readByte .respBuf i t = Config.draw (s.draws + (i - r.length))) ∧
      t.draws = s.draws + (144 - r.length) ∧
      t.respLen.toNat = r.length ∧ t.xferErr = e ∧ t.respFull = true ∧
      t = { s with respBuf := t.respBuf, respLen := t.respLen, xferErr := e, respFull := true,
                   draws := t.draws }

/-! ## The decoder operation -/

/-- What DECODE needs (R150, R205): an exchange, then a response; with both it completes without a fault. -/
def Obligations.DecodeNeedsAnExchangeAndAResponse : Prop :=
  (∀ w, decode (.controlWord w) = .instr .decode ↔ w = 0x0004) ∧
  ∀ s, s.faultCause = .none →
    (s.latValid = false → exec .decode s =
      .next { s with faultCause := .noExchange, faultInfo := 0x0004 }) ∧
    (s.latValid = true → s.respFull = false → exec .decode s =
      .next { s with faultCause := .noResponse, faultInfo := 0x0004 }) ∧
    (s.latValid = true → s.respFull = true →
      ∃ t, exec .decode s = .next t ∧ t.faultCause = .none) ∧
    (∀ w, cwOp w = 4 → w ≠ 0x0004 → raisesIllegalOp w s)

/-- What DECODE of every kind writes whatever the response holds (R35, R37, R179 whole; R36, R38, R151), and its frame:
no `CMD_BUF` byte, `CMD_LEN`, `LAT_KIND`, `LAT_ADDR`, `RESP_BUF` byte, `RESP_LEN` or `XFER_ERR`. -/
def Obligations.DecodeClosesTheExchange : Prop :=
  ∀ (k : Kind) (s : State), s.readyToDecode k → ∃ t, exec .decode s = .next t ∧
    t.resValid = true ∧ t.resKind = k ∧ t.resAddr = s.latAddr ∧ t.latValid = false ∧
    t.respFull = false ∧ t.fatal = (t.outcome.getLsbD 9 || t.outcome.getLsbD 10) ∧
    (∀ i < 128, readByte .rdata i t = if k = .read then readByte .respBuf (14 + i) s else 0x00) ∧
    t.calcCsum = (if k = .read then xorFold (readBytes .respBuf 12 130 s) else 0x00) ∧
    t.endByte = (if k = .read then readByte .respBuf 143 s
      else if k = .write then readByte .respBuf 141 s else 0x00) ∧
    sameCommand s t ∧ sameResponse s t ∧ samePorts s t ∧ sameFault s t ∧ t.idle

/-- R152 to R156, whole: the status checks, in order, each of which stops with its own bit and cause; and what
R157 says of a stop: no field check has been made, and `RDATA`, `CALC_CSUM` and `END_BYTE` are still the raw
buffer's (for a read; R179, R124, R37). -/
def Obligations.StatusChecksInOrder : Prop :=
  ∀ (k : Kind) (s : State), s.readyToDecode k → ∃ t, exec .decode s = .next t ∧
    (s.xferErr = true → t.outcome = 0x001 ∧ t.perrCause = .none) ∧
    (s.xferErr = false → s.respLen.toNat < reqLenOf k → t.outcome = 0x002 ∧ t.perrCause = .length) ∧
    (s.xferErr = false → reqLenOf k ≤ s.respLen.toNat → readByte .respBuf 0 s ≠ 0x55 →
      t.outcome = 0x002 ∧ t.perrCause = .adapterStatus) ∧
    (s.xferErr = false → reqLenOf k ≤ s.respLen.toNat → readByte .respBuf 0 s = 0x55 → k ≠ .verify →
      (readByte .respBuf 1 s = Config.pAuthFail → t.outcome = 0x004 ∧ t.perrCause = .none) ∧
      (readByte .respBuf 1 s ≠ Config.pAuthFail → readByte .respBuf 1 s ≠ 0x5A →
        t.outcome = 0x002 ∧ t.perrCause = .commandStatus)) ∧
    (s.xferErr = false → reqLenOf k ≤ s.respLen.toNat → readByte .respBuf 0 s = 0x55 → k = .verify →
      t.outcome = 0x800) ∧
    ((s.xferErr = true ∨ s.respLen.toNat < reqLenOf k ∨ readByte .respBuf 0 s ≠ 0x55 ∨
        (k ≠ .verify ∧ readByte .respBuf 1 s ≠ 0x5A)) →
      t.cardType = .none ∧ t.ident = .none ∧ (∀ i, 3 ≤ i → t.outcome.getLsbD i = false) ∧
      (k = .read → (∀ i < 128, readByte .rdata i t = readByte .respBuf (14 + i) s) ∧
        t.calcCsum = xorFold (readBytes .respBuf 12 130 s) ∧
        t.endByte = readByte .respBuf 143 s))

/-- R165 and R166, whole: DECODE of a VERIFY exchange. -/
def Obligations.DecodeOfAVerifyExchange : Prop :=
  ∀ s, s.readyToDecode .verify → ∃ t, exec .decode s = .next t ∧
    (s.xferErr = true → t.outcome = 0x001 ∧ t.perrCause = .none ∧ t.cardType = .none) ∧
    (s.xferErr = false → s.respLen.toNat < 2 →
      t.outcome = 0x002 ∧ t.perrCause = .length ∧ t.cardType = .none) ∧
    (s.xferErr = false → 2 ≤ s.respLen.toNat → readByte .respBuf 0 s ≠ 0x55 →
      t.outcome = 0x002 ∧ t.perrCause = .adapterStatus ∧ t.cardType = .none) ∧
    (s.xferErr = false → 2 ≤ s.respLen.toNat → readByte .respBuf 0 s = 0x55 →
      t.outcome = 0x800 ∧ t.perrCause = .none ∧
      (readByte .respBuf 1 s = 0x01 → t.cardType = .ps1) ∧
      (readByte .respBuf 1 s = 0x02 → t.cardType = .ps2) ∧
      (readByte .respBuf 1 s ≠ 0x01 → readByte .respBuf 1 s ≠ 0x02 → t.cardType = .unknown)) ∧
    t.ident = .none ∧ (∀ i < 128, readByte .rdata i t = 0x00) ∧ t.calcCsum = 0x00 ∧
    t.endByte = 0x00 ∧ t.fatal = false

/-- R170 and R171, whole: DECODE of a GETID exchange. -/
def Obligations.DecodeOfAGetIdExchange : Prop :=
  ∀ s, s.readyToDecode .getId → ∃ t, exec .decode s = .next t ∧
    (s.xferErr = true → t.outcome = 0x001 ∧ t.perrCause = .none ∧ t.ident = .none) ∧
    (s.xferErr = false → s.respLen.toNat < 14 →
      t.outcome = 0x002 ∧ t.perrCause = .length ∧ t.ident = .none) ∧
    (s.xferErr = false → 14 ≤ s.respLen.toNat → readByte .respBuf 0 s ≠ 0x55 →
      t.outcome = 0x002 ∧ t.perrCause = .adapterStatus ∧ t.ident = .none) ∧
    (s.xferErr = false → 14 ≤ s.respLen.toNat → readByte .respBuf 0 s = 0x55 →
      readByte .respBuf 1 s = Config.pAuthFail →
      t.outcome = 0x004 ∧ t.perrCause = .none ∧ t.ident = .none) ∧
    (s.xferErr = false → 14 ≤ s.respLen.toNat → readByte .respBuf 0 s = 0x55 →
      readByte .respBuf 1 s ≠ Config.pAuthFail → readByte .respBuf 1 s ≠ 0x5A →
      t.outcome = 0x002 ∧ t.perrCause = .commandStatus ∧ t.ident = .none) ∧
    (longStatusPassed s .getId → t.outcome = 0x800 ∧ t.perrCause = .none ∧
      (t.ident = .memoryCard ↔
        readByte .respBuf 6 s = 0x5A ∧ readByte .respBuf 7 s = 0x5D ∧
        readByte .respBuf 8 s = 0x5C ∧ readByte .respBuf 9 s = 0x5D ∧
        readByte .respBuf 10 s = 0x04 ∧ readByte .respBuf 11 s = 0x00 ∧
        readByte .respBuf 12 s = 0x00 ∧ readByte .respBuf 13 s = 0x80) ∧
      (t.ident = .memoryCard ∨ t.ident = .unknown)) ∧
    t.cardType = .none ∧ (∀ i < 128, readByte .rdata i t = 0x00) ∧ t.calcCsum = 0x00 ∧
    t.endByte = 0x00 ∧ t.fatal = false

/-- R174 to R178, whole: DECODE of a READ exchange. The status checks stop with their own outcome; when they
pass, every field check sets its own bit, whatever the others found; and the data, the checksum computed and the
end byte are written in every case. -/
def Obligations.DecodeOfAReadExchange : Prop :=
  ∀ s, s.readyToDecode .read → ∃ t, exec .decode s = .next t ∧
    (s.xferErr = true → t.outcome = 0x001 ∧ t.perrCause = .none) ∧
    (s.xferErr = false → s.respLen.toNat < 144 → t.outcome = 0x002 ∧ t.perrCause = .length) ∧
    (s.xferErr = false → 144 ≤ s.respLen.toNat → readByte .respBuf 0 s ≠ 0x55 →
      t.outcome = 0x002 ∧ t.perrCause = .adapterStatus) ∧
    (s.xferErr = false → 144 ≤ s.respLen.toNat → readByte .respBuf 0 s = 0x55 →
      readByte .respBuf 1 s = Config.pAuthFail → t.outcome = 0x004 ∧ t.perrCause = .none) ∧
    (s.xferErr = false → 144 ≤ s.respLen.toNat → readByte .respBuf 0 s = 0x55 →
      readByte .respBuf 1 s ≠ Config.pAuthFail → readByte .respBuf 1 s ≠ 0x5A →
      t.outcome = 0x002 ∧ t.perrCause = .commandStatus) ∧
    (longStatusPassed s .read →
      (t.outcome.getLsbD 3 = true ↔
        readByte .respBuf 10 s ≠ 0x5C ∨ readByte .respBuf 11 s ≠ 0x5D) ∧
      (t.outcome.getLsbD 4 = true ↔
        readByte .respBuf 12 s ≠ msb s.latAddr ∨ readByte .respBuf 13 s ≠ lsb s.latAddr) ∧
      (t.outcome.getLsbD 5 = true ↔
        readByte .respBuf 142 s ≠ xorFold (readBytes .respBuf 12 130 s)) ∧
      (t.outcome.getLsbD 6 = true ↔ readByte .respBuf 143 s = 0x47) ∧
      (t.outcome.getLsbD 1 = true ↔ readByte .respBuf 143 s ≠ 0x47) ∧
      (t.perrCause = if readByte .respBuf 143 s = 0x47 then .none else .endByte) ∧
      t.outcome.getLsbD 0 = false ∧ t.outcome.getLsbD 2 = false ∧ t.outcome.getLsbD 7 = false ∧
      t.outcome.getLsbD 8 = false ∧ t.outcome.getLsbD 9 = false ∧ t.outcome.getLsbD 10 = false ∧
      (t.outcome.getLsbD 11 = true ↔ t.outcome.getLsbD 3 = false ∧ t.outcome.getLsbD 4 = false ∧
        t.outcome.getLsbD 5 = false ∧ t.outcome.getLsbD 1 = false)) ∧
    (∀ i < 128, readByte .rdata i t = readByte .respBuf (14 + i) s) ∧
    t.calcCsum = xorFold (readBytes .respBuf 12 130 s) ∧ t.endByte = readByte .respBuf 143 s ∧
    t.cardType = .none ∧ t.ident = .none ∧ t.fatal = false

/-- R185, R186 and R187, whole: DECODE of a WRITE exchange. -/
def Obligations.DecodeOfAWriteExchange : Prop :=
  ∀ s, s.readyToDecode .write → ∃ t, exec .decode s = .next t ∧
    (s.xferErr = true → t.outcome = 0x001 ∧ t.perrCause = .none) ∧
    (s.xferErr = false → s.respLen.toNat < 142 → t.outcome = 0x002 ∧ t.perrCause = .length) ∧
    (s.xferErr = false → 142 ≤ s.respLen.toNat → readByte .respBuf 0 s ≠ 0x55 →
      t.outcome = 0x002 ∧ t.perrCause = .adapterStatus) ∧
    (s.xferErr = false → 142 ≤ s.respLen.toNat → readByte .respBuf 0 s = 0x55 →
      readByte .respBuf 1 s = Config.pAuthFail → t.outcome = 0x004 ∧ t.perrCause = .none) ∧
    (s.xferErr = false → 142 ≤ s.respLen.toNat → readByte .respBuf 0 s = 0x55 →
      readByte .respBuf 1 s ≠ Config.pAuthFail → readByte .respBuf 1 s ≠ 0x5A →
      t.outcome = 0x002 ∧ t.perrCause = .commandStatus) ∧
    (longStatusPassed s .write →
      (readByte .respBuf 141 s = 0x47 → t.outcome = 0x840 ∧ t.perrCause = .none) ∧
      (readByte .respBuf 141 s = 0x4E → t.outcome = 0x080 ∧ t.perrCause = .none) ∧
      (readByte .respBuf 141 s = 0xFF → t.outcome = 0x100 ∧ t.perrCause = .none) ∧
      (readByte .respBuf 141 s = 0xFD → t.outcome = 0x200 ∧ t.perrCause = .none) ∧
      (readByte .respBuf 141 s = 0xFE → t.outcome = 0x400 ∧ t.perrCause = .none) ∧
      (readByte .respBuf 141 s ≠ 0x47 → readByte .respBuf 141 s ≠ 0x4E →
        readByte .respBuf 141 s ≠ 0xFF → readByte .respBuf 141 s ≠ 0xFD →
        readByte .respBuf 141 s ≠ 0xFE → t.outcome = 0x002 ∧ t.perrCause = .endByte)) ∧
    (t.fatal = true ↔ t.outcome = 0x200 ∨ t.outcome = 0x400) ∧
    t.outcome.getLsbD 3 = false ∧ t.outcome.getLsbD 4 = false ∧ t.outcome.getLsbD 5 = false ∧
    t.endByte = readByte .respBuf 141 s ∧ t.resAddr = s.latAddr ∧
    (∀ i < 128, readByte .rdata i t = 0x00) ∧ t.calcCsum = 0x00 ∧ t.cardType = .none ∧
    t.ident = .none

/-- R158, whole: Success is recorded exactly when no failure bit is. -/
def Obligations.SuccessExactlyWithoutFailure : Prop :=
  (∀ i, failMask.getLsbD i = true ↔ i ≤ 5 ∨ (7 ≤ i ∧ i ≤ 10)) ∧
  ∀ (k : Kind) (s : State), s.readyToDecode k → ∃ t, exec .decode s = .next t ∧
    (t.outcome.getLsbD 11 = true ↔ t.outcome &&& failMask = 0) ∧
    (t.outcome.getLsbD 11 = true → (k = .read ∨ k = .write) → t.outcome = 0x840) ∧
    (t.outcome.getLsbD 11 = true → (k = .verify ∨ k = .getId) → t.outcome = 0x800) ∧
    ((t.cardType = .unknown ∨ t.ident = .unknown) → t.outcome.getLsbD 11 = true)

/-- R159, whole: the ordered outcome list holds each recorded outcome once, in the order of the checks, and is
never empty. -/
def Obligations.OutcomeListInCheckOrder : Prop :=
  ∀ (k : Kind) (s : State), s.readyToDecode k → ∃ t, exec .decode s = .next t ∧
    (∀ f : Flag, f ∈ outcomeList t.outcome t.perrCause ↔ f.isIn t.outcome = true) ∧
    (outcomeList t.outcome t.perrCause).Pairwise
      (fun f g => checkPlace t.perrCause f < checkPlace t.perrCause g) ∧
    outcomeList t.outcome t.perrCause ≠ []

/-- No outcome depends on a byte that no rule checks: two states that differ only in such response bytes, draws
among them, are decoded to states that differ only there (93 U10; the "not checked" rows of R83 to R86). -/
def Obligations.UncheckedBytesDoNotMatter : Prop :=
  ∀ (k : Kind) (s s' : State), s.readyToDecode k → s' = { s with respBuf := s'.respBuf } →
    (∀ i, checkedByte k i = true → readByte .respBuf i s' = readByte .respBuf i s) →
    ∃ t, exec .decode s = .next t ∧ exec .decode s' = .next { t with respBuf := s'.respBuf }

/-! ## Faults and reset -/

/-- R203, whole: a step that raises a block fault changes the two fault registers and nothing else. -/
def Obligations.FaultEntryIsPrecise : Prop :=
  ∀ (e : Input) (s t : State), s.faultCause = .none → present e s = .next t → t.faultCause ≠ .none →
    t = { s with faultCause := t.faultCause, faultInfo := t.faultInfo }

/-- R201 and R202, whole: which step raises which block fault, exactly, and with which information. A legal CSUM,
a legal operation whose state check passes, reset and every other input raise none. -/
def Obligations.FaultsOfEachStep : Prop :=
  ∀ (e : Input) (s t : State), s.faultCause = .none → present e s = .next t →
    (t.faultCause = .illegalOp ↔ ∃ w, e = .control w ∧ legal w = false) ∧
    (t.faultCause = .exchangeOutstanding ↔
      ∃ w k a, e = .control w ∧ decode (.controlWord w) = .instr (encOp k a) ∧ s.latValid = true) ∧
    (t.faultCause = .noExchange ↔ e = .control 0x0004 ∧ s.latValid = false) ∧
    (t.faultCause = .noResponse ↔ e = .control 0x0004 ∧ s.latValid = true ∧ s.respFull = false) ∧
    (t.faultCause = .unexpectedResponse ↔
      ∃ r x, e = .deliver r x ∧ r.length ≤ 144 ∧ s.latValid = false) ∧
    (t.faultCause = .responseOverrun ↔
      ∃ r x, e = .deliver r x ∧ r.length ≤ 144 ∧ s.latValid = true ∧ s.respFull = true) ∧
    (t.faultCause = .badRespLen ↔ ∃ r x, e = .deliver r x ∧ 144 < r.length) ∧
    (∀ w, e = .control w → t.faultCause ≠ .none → t.faultInfo = w) ∧
    (∀ r x, e = .deliver r x → t.faultCause ≠ .none → t.faultInfo = BitVec.ofNat 16 r.length)

/-- R204 and R206, whole: a faulted block has no step for a control word or a HOST.DELIVER; it can be read, and
reset; and whatever is presented to it, so long as it is not reset, leaves every register as it was: only the
write-data port, an input, can be driven. -/
def Obligations.FaultedBlockMovesOnlyByReset : Prop :=
  (∀ s, s.faultCause ≠ .none →
    (∀ w, present (.control w) s = .fault .stuck) ∧
    (∀ r e, r.length ≤ 255 → present (.deliver r e) s = .fault .stuck) ∧
    (∀ r : Reg, present (.read (.reg r)) s = .next s) ∧
    ∃ t, present .reset s = .next t ∧ t.faultCause = .none) ∧
  (∀ (es : List Input) (s t : State), s.faultCause ≠ .none → .reset ∉ es →
    presentAll es s = .next t → t = { s with wdata := t.wdata })

/-- The codes of R201 as the host reads them in `FAULT_CAUSE`, and the codes of R24, R30, R32, R33 and R34. That
State holds these registers as named values is the model's choice (log entry 7). -/
def Obligations.RegisterCodes : Prop :=
  (∀ s : State, readReg s .faultCause = s.faultCause.code ∧ readReg s .latKind = s.latKind.code ∧
    readReg s .resKind = s.resKind.code ∧ readReg s .perrCause = s.perrCause.code ∧ readReg s .cardType = s.cardType.code ∧
    readReg s .ident = s.ident.code) ∧
  [FaultCause.none, .illegalOp, .exchangeOutstanding, .noExchange, .noResponse, .unexpectedResponse,
    .responseOverrun, .badRespLen].map FaultCause.code = [0, 1, 2, 3, 4, 5, 6, 7] ∧
  [Kind.verify, .getId, .read, .write].map Kind.code = [0, 1, 2, 3] ∧
  [PErrCause.none, .length, .adapterStatus, .commandStatus, .endByte].map PErrCause.code =
    [0, 1, 2, 3, 4] ∧
  [CardType.none, .ps1, .ps2, .unknown].map CardType.code = [0, 1, 2, 3] ∧
  [Ident.none, .memoryCard, .unknown].map Ident.code = [0, 1, 2]

/-- Reset, from any state, sets every register to 0 and leaves in every byte of the three spaces a draw of its own
that no earlier step has taken (R230, R43; 93 U1): the byte at index `i` of a space is the draw at that space's
place plus `i`, no two bytes share a place, and the places lie between the counter before and the counter after.
`State.reset` reads 0 in every register too. The stream and the counters are the model's choice (log entry 3). -/
def Obligations.ResetClearsEveryRegister : Prop :=
  (∀ s, ∃ t, present .reset s = .next t ∧ (∀ r : Reg, readReg t r = 0) ∧ s.draws ≤ t.resetDraw ∧
    ∀ sp i, i < Space.size sp → t.resetDraw + Space.drawBase sp + i < t.draws ∧
      readByte sp i t = Config.draw (t.resetDraw + Space.drawBase sp + i)) ∧
  (∀ sp i sp' i', i < Space.size sp → i' < Space.size sp' →
    Space.drawBase sp + i = Space.drawBase sp' + i' → sp = sp' ∧ i = i') ∧
  (∀ r : Reg, readReg State.reset r = 0)

/-- R231: an exchange outstanding at reset is abandoned; its response, delivered later, is UNEXPECTED_RESPONSE. -/
def Obligations.ResetAbandonsTheExchange : Prop :=
  ∀ (s : State) (r : List Byte) (e : Bool), r.length ≤ 144 →
    ∃ t u, present .reset s = .next t ∧ t.idle ∧ present (.deliver r e) t = .next u ∧
      u.faultCause = .unexpectedResponse ∧ u.faultInfo = BitVec.ofNat 16 r.length

/-- R61, R234, R236: which steps an exchange admits. Each of the three either does its work or is a block fault,
and which one is decided by the handshake registers alone; CSUM may come anywhere and leaves the handshake
alone. -/
def Obligations.ExchangeOrderIsEnforced : Prop :=
  ∀ s, s.faultCause = .none →
    (∀ k a, ∃ t, exec (encOp k a) s = .next t ∧ (t.faultCause = .none ↔ s.latValid = false)) ∧
    (∀ r e, r.length ≤ 144 → ∃ t, present (.deliver r e) s = .next t ∧
      (t.faultCause = .none ↔ s.latValid = true ∧ s.respFull = false)) ∧
    (∃ t, exec .decode s = .next t ∧
      (t.faultCause = .none ↔ s.latValid = true ∧ s.respFull = true)) ∧
    (∀ a, ∃ t, exec (.csum a) s = .next t ∧ t.faultCause = .none ∧ t.latValid = s.latValid ∧
      t.respFull = s.respFull)

/-! ## Whole-machine rules -/

/-- R22, R23 and R63: between an ENC operation and the next, or reset, no step changes a byte of `CMD_BUF`,
`CMD_LEN` or the latched kind and address. -/
def Obligations.CommandIsStable : Prop :=
  ∀ (e : Input) (s t : State), present e s = .next t → e ≠ .reset →
    (∀ w k a, e = .control w → decode (.controlWord w) ≠ .instr (encOp k a)) → sameCommand s t

/-- The result registers are written by DECODE, by reset, and `CALC_CSUM` by CSUM too, and by nothing else (R30
to R38, R237). -/
def Obligations.ResultsLastUntilTheNextDecode : Prop :=
  ∀ (e : Input) (s t : State), present e s = .next t → e ≠ .reset → e ≠ .control 0x0004 →
    sameResults s t ∧
    ((∀ w a, e = .control w → decode (.controlWord w) ≠ .instr (.csum a)) → t.calcCsum = s.calcCsum)

/-- Only HOST.DELIVER and reset write `RESP_BUF`, `RESP_LEN` and `XFER_ERR` (R26, R27, R28). -/
def Obligations.ResponseIsWrittenByDeliverOnly : Prop :=
  ∀ (e : Input) (s t : State), present e s = .next t → e ≠ .reset →
    (∀ r x, e ≠ .deliver r x) → sameResponse s t

/-- Host reads: any register and any byte of a space at any time, on a faulted block too, without a side effect;
an index outside its space is refused (R42, R50, R57, R204). -/
def Obligations.HostReadsHaveNoEffect : Prop :=
  ∀ s, (∀ r : Reg, present (.read (.reg r)) s = .next s) ∧
    (∀ sp i, i < Space.size sp → present (.read (.byte sp i)) s = .next s) ∧
    (∀ sp i, Space.size sp ≤ i → present (.read (.byte sp i)) s = .refused .noSuchIndex) ∧
    Space.size .cmdBuf = 144 ∧ Space.size .respBuf = 144 ∧ Space.size .rdata = 128

/-- `P_AUTH_FAIL` is never the success status, and no other byte is shut out (R5). -/
def Obligations.AuthFailCodeIsAnyOtherByte : Prop :=
  Config.pAuthFail ≠ 0x5A ∧
  ∀ b : Byte, b ≠ 0x5A → ∃ ix, Config.authFailCode ix = b

/-! ## Invariants -/

/-- The state after reset meets the four invariants. -/
def Obligations.ResetIsSound : Prop :=
  State.reset.MemoryForm ∧ State.reset.ExchangeForm ∧ State.reset.ResultForm ∧ State.reset.FaultForm

/-- Every step keeps the canonical form of the spaces, and takes no draw that an earlier step has taken: it
leaves the response buffer and both counters alone; or it fills the spaces with draws from the counter's value on
(a reset); or it fills `RESP_BUF` past `RESP_LEN` with draws from the counter's value on (a HOST.DELIVER); and the
counter moves past what was taken. The form and the counters are the model's own (log entry 3). -/
def Obligations.StepKeepsMemoryForm : Prop :=
  ∀ s t, s.MemoryForm → step s = .next t → t.MemoryForm ∧ s.draws ≤ t.draws ∧
    ((t.draws = s.draws ∧ t.resetDraw = s.resetDraw ∧
        ∀ i, readByte .respBuf i t = readByte .respBuf i s) ∨
      (t.resetDraw = s.draws ∧ t.draws = s.draws + resetDraws ∧
        ∀ sp i, i < Space.size sp →
          readByte sp i t = Config.draw (s.draws + Space.drawBase sp + i)) ∨
      (t.resetDraw = s.resetDraw ∧ t.draws = s.draws + (144 - t.respLen.toNat) ∧
        ∀ i, t.respLen.toNat ≤ i → i < 144 →
          readByte .respBuf i t = Config.draw (s.draws + (i - t.respLen.toNat))))

/-- Every step keeps: the command in `CMD_BUF` is the one its latch names, a response waits only inside an
exchange, and what is on the wire is that command. -/
def Obligations.StepKeepsExchangeForm : Prop :=
  ∀ s t, s.ExchangeForm → step s = .next t → t.ExchangeForm

/-- Every step keeps what R30 to R38 and R158 say of the result registers together. -/
def Obligations.StepKeepsResultForm : Prop :=
  ∀ s t, s.ExchangeForm → s.ResultForm → step s = .next t → t.ResultForm

/-- Every step keeps: no fault information without a fault (R39, R40). -/
def Obligations.StepKeepsFaultForm : Prop :=
  ∀ s t, s.FaultForm → step s = .next t → t.FaultForm

/-! ## Whole exchanges -/

/-- A read exchange, from its ENC.READ to its DECODE, with a response that is good but perhaps for its checksum
byte: the data is delivered, and ChecksumMismatch is recorded exactly when the byte is not the checksum the
generator computes for the same address and data (R103, R123, R124, R142, R177, R179). -/
def Obligations.ReadExchangeEndToEnd : Prop :=
  ∀ (a : Addr) (d : List Byte) (gap : List Byte) (c : Byte) (s : State), s.idle →
    d.length = 128 → gap.length = 8 →
    ∃ t, presentAll [.control ((a.setWidth 16 <<< 3) ||| 2),
        .deliver ([0x55, 0x5A] ++ gap ++ [0x5C, 0x5D, msb a, lsb a] ++ d ++ [c, 0x47]) false,
        .control 0x0004] s = .next t ∧
      t.outcome = (if c = checksum (msb a) (lsb a) d then 0x840 else 0x060) ∧
      readBytes .rdata 0 128 t = d ∧ t.calcCsum = checksum (msb a) (lsb a) d ∧ t.endByte = 0x47 ∧
      t.resKind = .read ∧ t.resAddr = a ∧ t.perrCause = .none ∧ t.fatal = false ∧ t.idle

/-- A write exchange, end to end, by every value of its end byte (R142, R185, R186); and a fatal end byte leaves
the block usable: the next ENC.WRITE is encoded normally, since terminating the workflow is its user's duty (R207, R240). -/
def Obligations.WriteExchangeEndToEnd : Prop :=
  ∀ (a b : Addr) (gap : List Byte) (e : Byte) (s : State), s.idle → gap.length = 139 →
    ∃ t u, presentAll [.control ((a.setWidth 16 <<< 3) ||| 3),
        .deliver ([0x55, 0x5A] ++ gap ++ [e]) false, .control 0x0004] s = .next t ∧
      t.resAddr = a ∧ t.endByte = e ∧ t.faultCause = .none ∧
      (e = 0x47 → t.outcome = 0x840 ∧ t.perrCause = .none) ∧
      (e = 0x4E → t.outcome = 0x080 ∧ t.perrCause = .none) ∧
      (e = 0xFF → t.outcome = 0x100 ∧ t.perrCause = .none) ∧
      (e = 0xFD → t.outcome = 0x200 ∧ t.perrCause = .none) ∧
      (e = 0xFE → t.outcome = 0x400 ∧ t.perrCause = .none) ∧
      (e ≠ 0x47 → e ≠ 0x4E → e ≠ 0xFF → e ≠ 0xFD → e ≠ 0xFE →
        t.outcome = 0x002 ∧ t.perrCause = .endByte) ∧
      (t.fatal = true ↔ e = 0xFD ∨ e = 0xFE) ∧
      presentAll [.control ((b.setWidth 16 <<< 3) ||| 3)] t = .next u ∧
      u.faultCause = .none ∧ u.latValid = true ∧ u.latKind = .write ∧ u.latAddr = b

/-- An exchange whose transport failed is closed with TransportError, for every kind, whatever bytes were
delivered and whatever the draws are: no byte-level check is made (R144, R152). -/
def Obligations.FailedTransportEndToEnd : Prop :=
  ∀ (k : Kind) (a : Addr) (r : List Byte) (s : State), s.idle → r.length ≤ 144 →
    ∃ t, presentAll [.control (presentedWord (encOp k a)), .deliver r true, .control 0x0004] s =
        .next t ∧
      t.outcome = 0x001 ∧ t.perrCause = .none ∧ t.cardType = .none ∧ t.ident = .none ∧
      t.fatal = false ∧ t.resKind = k ∧ t.resAddr = latchedAddr k a ∧ t.idle
end

