-- ==== Sys2Proof/Laws/Config.lean ====
section
/-! SUPPORT. The range of the open parameter `P_AUTH_FAIL` (R5). -/

namespace Sys2Proof

/-- No admissible code is the success status (R5). -/
theorem Config.authFailCode_ne (ix : Fin 255) : Config.authFailCode ix ≠ 0x5A := by
  obtain ⟨n, hn⟩ := ix
  intro h
  have h' := congrArg BitVec.toNat h
  have h90 : (0x5A : Byte).toNat = 90 := rfl
  rw [h90] at h'
  simp only [Config.authFailCode, BitVec.toNat_ofNat] at h'
  split at h' <;> omega

/-- `P_AUTH_FAIL` cannot equal the success status (R5). -/
theorem Config.pAuthFail_ne : Config.pAuthFail ≠ 0x5A := Config.authFailCode_ne _

end Sys2Proof
end

