-- ==== Sys2Proof/Laws/State.lean ====
section
/-! SUPPORT. One lemma per field of the state per named write of it, so that no proof unfolds a record update. -/

namespace Sys2Proof.Machine

variable (s : State)

/-! ### `State.reset` -/

@[simp] theorem reset_cmdBuf : State.reset.cmdBuf = [] := rfl
@[simp] theorem reset_cmdLen : State.reset.cmdLen = 0 := rfl
@[simp] theorem reset_latKind : State.reset.latKind = .verify := rfl
@[simp] theorem reset_latAddr : State.reset.latAddr = 0 := rfl
@[simp] theorem reset_latValid : State.reset.latValid = false := rfl
@[simp] theorem reset_respBuf : State.reset.respBuf = [] := rfl
@[simp] theorem reset_respLen : State.reset.respLen = 0 := rfl
@[simp] theorem reset_xferErr : State.reset.xferErr = false := rfl
@[simp] theorem reset_respFull : State.reset.respFull = false := rfl
@[simp] theorem reset_resValid : State.reset.resValid = false := rfl
@[simp] theorem reset_resKind : State.reset.resKind = .verify := rfl
@[simp] theorem reset_resAddr : State.reset.resAddr = 0 := rfl
@[simp] theorem reset_outcome : State.reset.outcome = 0 := rfl
@[simp] theorem reset_perrCause : State.reset.perrCause = .none := rfl
@[simp] theorem reset_cardType : State.reset.cardType = .none := rfl
@[simp] theorem reset_ident : State.reset.ident = .none := rfl
@[simp] theorem reset_rdata : State.reset.rdata = [] := rfl
@[simp] theorem reset_calcCsum : State.reset.calcCsum = 0 := rfl
@[simp] theorem reset_endByte : State.reset.endByte = 0 := rfl
@[simp] theorem reset_fatal : State.reset.fatal = false := rfl
@[simp] theorem reset_faultCause : State.reset.faultCause = .none := rfl
@[simp] theorem reset_faultInfo : State.reset.faultInfo = 0 := rfl
@[simp] theorem reset_wdata : State.reset.wdata = [] := rfl
@[simp] theorem reset_inputs : State.reset.inputs = [] := rfl
@[simp] theorem reset_wire : State.reset.wire = [] := rfl
@[simp] theorem reset_draws : State.reset.draws = 416 := rfl
@[simp] theorem reset_resetDraw : State.reset.resetDraw = 0 := rfl

/-! ### `State.withInputs` -/

@[simp] theorem withInputs_cmdBuf (is : List Input) : (s.withInputs is).cmdBuf = s.cmdBuf := rfl
@[simp] theorem withInputs_cmdLen (is : List Input) : (s.withInputs is).cmdLen = s.cmdLen := rfl
@[simp] theorem withInputs_latKind (is : List Input) : (s.withInputs is).latKind = s.latKind := rfl
@[simp] theorem withInputs_latAddr (is : List Input) : (s.withInputs is).latAddr = s.latAddr := rfl
@[simp] theorem withInputs_latValid (is : List Input) : (s.withInputs is).latValid = s.latValid := rfl
@[simp] theorem withInputs_respBuf (is : List Input) : (s.withInputs is).respBuf = s.respBuf := rfl
@[simp] theorem withInputs_respLen (is : List Input) : (s.withInputs is).respLen = s.respLen := rfl
@[simp] theorem withInputs_xferErr (is : List Input) : (s.withInputs is).xferErr = s.xferErr := rfl
@[simp] theorem withInputs_respFull (is : List Input) : (s.withInputs is).respFull = s.respFull := rfl
@[simp] theorem withInputs_resValid (is : List Input) : (s.withInputs is).resValid = s.resValid := rfl
@[simp] theorem withInputs_resKind (is : List Input) : (s.withInputs is).resKind = s.resKind := rfl
@[simp] theorem withInputs_resAddr (is : List Input) : (s.withInputs is).resAddr = s.resAddr := rfl
@[simp] theorem withInputs_outcome (is : List Input) : (s.withInputs is).outcome = s.outcome := rfl
@[simp] theorem withInputs_perrCause (is : List Input) : (s.withInputs is).perrCause = s.perrCause := rfl
@[simp] theorem withInputs_cardType (is : List Input) : (s.withInputs is).cardType = s.cardType := rfl
@[simp] theorem withInputs_ident (is : List Input) : (s.withInputs is).ident = s.ident := rfl
@[simp] theorem withInputs_rdata (is : List Input) : (s.withInputs is).rdata = s.rdata := rfl
@[simp] theorem withInputs_calcCsum (is : List Input) : (s.withInputs is).calcCsum = s.calcCsum := rfl
@[simp] theorem withInputs_endByte (is : List Input) : (s.withInputs is).endByte = s.endByte := rfl
@[simp] theorem withInputs_fatal (is : List Input) : (s.withInputs is).fatal = s.fatal := rfl
@[simp] theorem withInputs_faultCause (is : List Input) : (s.withInputs is).faultCause = s.faultCause := rfl
@[simp] theorem withInputs_faultInfo (is : List Input) : (s.withInputs is).faultInfo = s.faultInfo := rfl
@[simp] theorem withInputs_wdata (is : List Input) : (s.withInputs is).wdata = s.wdata := rfl
@[simp] theorem withInputs_inputs (is : List Input) : (s.withInputs is).inputs = is := rfl
@[simp] theorem withInputs_wire (is : List Input) : (s.withInputs is).wire = s.wire := rfl
@[simp] theorem withInputs_draws (is : List Input) : (s.withInputs is).draws = s.draws := rfl
@[simp] theorem withInputs_resetDraw (is : List Input) : (s.withInputs is).resetDraw = s.resetDraw := rfl

/-! ### `State.enterFault` -/

@[simp] theorem enterFault_cmdBuf (c : FaultCause) (v : BitVec 16) :
    (s.enterFault c v).cmdBuf = s.cmdBuf := rfl
@[simp] theorem enterFault_cmdLen (c : FaultCause) (v : BitVec 16) :
    (s.enterFault c v).cmdLen = s.cmdLen := rfl
@[simp] theorem enterFault_latKind (c : FaultCause) (v : BitVec 16) :
    (s.enterFault c v).latKind = s.latKind := rfl
@[simp] theorem enterFault_latAddr (c : FaultCause) (v : BitVec 16) :
    (s.enterFault c v).latAddr = s.latAddr := rfl
@[simp] theorem enterFault_latValid (c : FaultCause) (v : BitVec 16) :
    (s.enterFault c v).latValid = s.latValid := rfl
@[simp] theorem enterFault_respBuf (c : FaultCause) (v : BitVec 16) :
    (s.enterFault c v).respBuf = s.respBuf := rfl
@[simp] theorem enterFault_respLen (c : FaultCause) (v : BitVec 16) :
    (s.enterFault c v).respLen = s.respLen := rfl
@[simp] theorem enterFault_xferErr (c : FaultCause) (v : BitVec 16) :
    (s.enterFault c v).xferErr = s.xferErr := rfl
@[simp] theorem enterFault_respFull (c : FaultCause) (v : BitVec 16) :
    (s.enterFault c v).respFull = s.respFull := rfl
@[simp] theorem enterFault_resValid (c : FaultCause) (v : BitVec 16) :
    (s.enterFault c v).resValid = s.resValid := rfl
@[simp] theorem enterFault_resKind (c : FaultCause) (v : BitVec 16) :
    (s.enterFault c v).resKind = s.resKind := rfl
@[simp] theorem enterFault_resAddr (c : FaultCause) (v : BitVec 16) :
    (s.enterFault c v).resAddr = s.resAddr := rfl
@[simp] theorem enterFault_outcome (c : FaultCause) (v : BitVec 16) :
    (s.enterFault c v).outcome = s.outcome := rfl
@[simp] theorem enterFault_perrCause (c : FaultCause) (v : BitVec 16) :
    (s.enterFault c v).perrCause = s.perrCause := rfl
@[simp] theorem enterFault_cardType (c : FaultCause) (v : BitVec 16) :
    (s.enterFault c v).cardType = s.cardType := rfl
@[simp] theorem enterFault_ident (c : FaultCause) (v : BitVec 16) : (s.enterFault c v).ident = s.ident := rfl
@[simp] theorem enterFault_rdata (c : FaultCause) (v : BitVec 16) : (s.enterFault c v).rdata = s.rdata := rfl
@[simp] theorem enterFault_calcCsum (c : FaultCause) (v : BitVec 16) :
    (s.enterFault c v).calcCsum = s.calcCsum := rfl
@[simp] theorem enterFault_endByte (c : FaultCause) (v : BitVec 16) :
    (s.enterFault c v).endByte = s.endByte := rfl
@[simp] theorem enterFault_fatal (c : FaultCause) (v : BitVec 16) : (s.enterFault c v).fatal = s.fatal := rfl
@[simp] theorem enterFault_faultCause (c : FaultCause) (v : BitVec 16) :
    (s.enterFault c v).faultCause = c := rfl
@[simp] theorem enterFault_faultInfo (c : FaultCause) (v : BitVec 16) :
    (s.enterFault c v).faultInfo = v := rfl
@[simp] theorem enterFault_wdata (c : FaultCause) (v : BitVec 16) : (s.enterFault c v).wdata = s.wdata := rfl
@[simp] theorem enterFault_inputs (c : FaultCause) (v : BitVec 16) :
    (s.enterFault c v).inputs = s.inputs := rfl
@[simp] theorem enterFault_wire (c : FaultCause) (v : BitVec 16) : (s.enterFault c v).wire = s.wire := rfl
@[simp] theorem enterFault_draws (c : FaultCause) (v : BitVec 16) : (s.enterFault c v).draws = s.draws := rfl
@[simp] theorem enterFault_resetDraw (c : FaultCause) (v : BitVec 16) :
    (s.enterFault c v).resetDraw = s.resetDraw := rfl

/-! ### `State.driveWdata` -/

@[simp] theorem driveWdata_cmdBuf (d : Vector Byte 128) : (s.driveWdata d).cmdBuf = s.cmdBuf := rfl
@[simp] theorem driveWdata_cmdLen (d : Vector Byte 128) : (s.driveWdata d).cmdLen = s.cmdLen := rfl
@[simp] theorem driveWdata_latKind (d : Vector Byte 128) : (s.driveWdata d).latKind = s.latKind := rfl
@[simp] theorem driveWdata_latAddr (d : Vector Byte 128) : (s.driveWdata d).latAddr = s.latAddr := rfl
@[simp] theorem driveWdata_latValid (d : Vector Byte 128) : (s.driveWdata d).latValid = s.latValid := rfl
@[simp] theorem driveWdata_respBuf (d : Vector Byte 128) : (s.driveWdata d).respBuf = s.respBuf := rfl
@[simp] theorem driveWdata_respLen (d : Vector Byte 128) : (s.driveWdata d).respLen = s.respLen := rfl
@[simp] theorem driveWdata_xferErr (d : Vector Byte 128) : (s.driveWdata d).xferErr = s.xferErr := rfl
@[simp] theorem driveWdata_respFull (d : Vector Byte 128) : (s.driveWdata d).respFull = s.respFull := rfl
@[simp] theorem driveWdata_resValid (d : Vector Byte 128) : (s.driveWdata d).resValid = s.resValid := rfl
@[simp] theorem driveWdata_resKind (d : Vector Byte 128) : (s.driveWdata d).resKind = s.resKind := rfl
@[simp] theorem driveWdata_resAddr (d : Vector Byte 128) : (s.driveWdata d).resAddr = s.resAddr := rfl
@[simp] theorem driveWdata_outcome (d : Vector Byte 128) : (s.driveWdata d).outcome = s.outcome := rfl
@[simp] theorem driveWdata_perrCause (d : Vector Byte 128) : (s.driveWdata d).perrCause = s.perrCause := rfl
@[simp] theorem driveWdata_cardType (d : Vector Byte 128) : (s.driveWdata d).cardType = s.cardType := rfl
@[simp] theorem driveWdata_ident (d : Vector Byte 128) : (s.driveWdata d).ident = s.ident := rfl
@[simp] theorem driveWdata_rdata (d : Vector Byte 128) : (s.driveWdata d).rdata = s.rdata := rfl
@[simp] theorem driveWdata_calcCsum (d : Vector Byte 128) : (s.driveWdata d).calcCsum = s.calcCsum := rfl
@[simp] theorem driveWdata_endByte (d : Vector Byte 128) : (s.driveWdata d).endByte = s.endByte := rfl
@[simp] theorem driveWdata_fatal (d : Vector Byte 128) : (s.driveWdata d).fatal = s.fatal := rfl
@[simp] theorem driveWdata_faultCause (d : Vector Byte 128) :
    (s.driveWdata d).faultCause = s.faultCause := rfl
@[simp] theorem driveWdata_faultInfo (d : Vector Byte 128) : (s.driveWdata d).faultInfo = s.faultInfo := rfl
@[simp] theorem driveWdata_wdata (d : Vector Byte 128) :
    (s.driveWdata d).wdata = Memory.ofBytes d.toList := rfl
@[simp] theorem driveWdata_inputs (d : Vector Byte 128) : (s.driveWdata d).inputs = s.inputs := rfl
@[simp] theorem driveWdata_wire (d : Vector Byte 128) : (s.driveWdata d).wire = s.wire := rfl
@[simp] theorem driveWdata_draws (d : Vector Byte 128) : (s.driveWdata d).draws = s.draws := rfl
@[simp] theorem driveWdata_resetDraw (d : Vector Byte 128) : (s.driveWdata d).resetDraw = s.resetDraw := rfl

/-! ### `State.openExchange` -/

@[simp] theorem openExchange_cmdBuf (k : Kind) (a : Addr) (f : List Byte) :
    (s.openExchange k a f).cmdBuf = Memory.ofBytes (f ++ List.replicate (144 - f.length) 0x00) := rfl
@[simp] theorem openExchange_cmdLen (k : Kind) (a : Addr) (f : List Byte) :
    (s.openExchange k a f).cmdLen = BitVec.ofNat 8 f.length := rfl
@[simp] theorem openExchange_latKind (k : Kind) (a : Addr) (f : List Byte) :
    (s.openExchange k a f).latKind = k := rfl
@[simp] theorem openExchange_latAddr (k : Kind) (a : Addr) (f : List Byte) :
    (s.openExchange k a f).latAddr = a := rfl
@[simp] theorem openExchange_latValid (k : Kind) (a : Addr) (f : List Byte) :
    (s.openExchange k a f).latValid = true := rfl
@[simp] theorem openExchange_respBuf (k : Kind) (a : Addr) (f : List Byte) :
    (s.openExchange k a f).respBuf = s.respBuf := rfl
@[simp] theorem openExchange_respLen (k : Kind) (a : Addr) (f : List Byte) :
    (s.openExchange k a f).respLen = s.respLen := rfl
@[simp] theorem openExchange_xferErr (k : Kind) (a : Addr) (f : List Byte) :
    (s.openExchange k a f).xferErr = s.xferErr := rfl
@[simp] theorem openExchange_respFull (k : Kind) (a : Addr) (f : List Byte) :
    (s.openExchange k a f).respFull = false := rfl
@[simp] theorem openExchange_resValid (k : Kind) (a : Addr) (f : List Byte) :
    (s.openExchange k a f).resValid = s.resValid := rfl
@[simp] theorem openExchange_resKind (k : Kind) (a : Addr) (f : List Byte) :
    (s.openExchange k a f).resKind = s.resKind := rfl
@[simp] theorem openExchange_resAddr (k : Kind) (a : Addr) (f : List Byte) :
    (s.openExchange k a f).resAddr = s.resAddr := rfl
@[simp] theorem openExchange_outcome (k : Kind) (a : Addr) (f : List Byte) :
    (s.openExchange k a f).outcome = s.outcome := rfl
@[simp] theorem openExchange_perrCause (k : Kind) (a : Addr) (f : List Byte) :
    (s.openExchange k a f).perrCause = s.perrCause := rfl
@[simp] theorem openExchange_cardType (k : Kind) (a : Addr) (f : List Byte) :
    (s.openExchange k a f).cardType = s.cardType := rfl
@[simp] theorem openExchange_ident (k : Kind) (a : Addr) (f : List Byte) :
    (s.openExchange k a f).ident = s.ident := rfl
@[simp] theorem openExchange_rdata (k : Kind) (a : Addr) (f : List Byte) :
    (s.openExchange k a f).rdata = s.rdata := rfl
@[simp] theorem openExchange_calcCsum (k : Kind) (a : Addr) (f : List Byte) :
    (s.openExchange k a f).calcCsum = s.calcCsum := rfl
@[simp] theorem openExchange_endByte (k : Kind) (a : Addr) (f : List Byte) :
    (s.openExchange k a f).endByte = s.endByte := rfl
@[simp] theorem openExchange_fatal (k : Kind) (a : Addr) (f : List Byte) :
    (s.openExchange k a f).fatal = s.fatal := rfl
@[simp] theorem openExchange_faultCause (k : Kind) (a : Addr) (f : List Byte) :
    (s.openExchange k a f).faultCause = s.faultCause := rfl
@[simp] theorem openExchange_faultInfo (k : Kind) (a : Addr) (f : List Byte) :
    (s.openExchange k a f).faultInfo = s.faultInfo := rfl
@[simp] theorem openExchange_wdata (k : Kind) (a : Addr) (f : List Byte) :
    (s.openExchange k a f).wdata = s.wdata := rfl
@[simp] theorem openExchange_inputs (k : Kind) (a : Addr) (f : List Byte) :
    (s.openExchange k a f).inputs = s.inputs := rfl
@[simp] theorem openExchange_wire (k : Kind) (a : Addr) (f : List Byte) :
    (s.openExchange k a f).wire = [] := rfl
@[simp] theorem openExchange_draws (k : Kind) (a : Addr) (f : List Byte) :
    (s.openExchange k a f).draws = s.draws := rfl
@[simp] theorem openExchange_resetDraw (k : Kind) (a : Addr) (f : List Byte) :
    (s.openExchange k a f).resetDraw = s.resetDraw := rfl

/-! ### `State.receive` -/

@[simp] theorem receive_cmdBuf (r : List Byte) (e : Bool) : (s.receive r e).cmdBuf = s.cmdBuf := rfl
@[simp] theorem receive_cmdLen (r : List Byte) (e : Bool) : (s.receive r e).cmdLen = s.cmdLen := rfl
@[simp] theorem receive_latKind (r : List Byte) (e : Bool) : (s.receive r e).latKind = s.latKind := rfl
@[simp] theorem receive_latAddr (r : List Byte) (e : Bool) : (s.receive r e).latAddr = s.latAddr := rfl
@[simp] theorem receive_latValid (r : List Byte) (e : Bool) : (s.receive r e).latValid = s.latValid := rfl
@[simp] theorem receive_respBuf (r : List Byte) (e : Bool) :
    (s.receive r e).respBuf = Memory.ofBytes
      (r ++ (List.range' 0 (144 - r.length)).map fun j => Config.draw (s.draws + j)) := rfl
@[simp] theorem receive_respLen (r : List Byte) (e : Bool) :
    (s.receive r e).respLen = BitVec.ofNat 8 r.length := rfl
@[simp] theorem receive_xferErr (r : List Byte) (e : Bool) : (s.receive r e).xferErr = e := rfl
@[simp] theorem receive_respFull (r : List Byte) (e : Bool) : (s.receive r e).respFull = true := rfl
@[simp] theorem receive_resValid (r : List Byte) (e : Bool) : (s.receive r e).resValid = s.resValid := rfl
@[simp] theorem receive_resKind (r : List Byte) (e : Bool) : (s.receive r e).resKind = s.resKind := rfl
@[simp] theorem receive_resAddr (r : List Byte) (e : Bool) : (s.receive r e).resAddr = s.resAddr := rfl
@[simp] theorem receive_outcome (r : List Byte) (e : Bool) : (s.receive r e).outcome = s.outcome := rfl
@[simp] theorem receive_perrCause (r : List Byte) (e : Bool) : (s.receive r e).perrCause = s.perrCause := rfl
@[simp] theorem receive_cardType (r : List Byte) (e : Bool) : (s.receive r e).cardType = s.cardType := rfl
@[simp] theorem receive_ident (r : List Byte) (e : Bool) : (s.receive r e).ident = s.ident := rfl
@[simp] theorem receive_rdata (r : List Byte) (e : Bool) : (s.receive r e).rdata = s.rdata := rfl
@[simp] theorem receive_calcCsum (r : List Byte) (e : Bool) : (s.receive r e).calcCsum = s.calcCsum := rfl
@[simp] theorem receive_endByte (r : List Byte) (e : Bool) : (s.receive r e).endByte = s.endByte := rfl
@[simp] theorem receive_fatal (r : List Byte) (e : Bool) : (s.receive r e).fatal = s.fatal := rfl
@[simp] theorem receive_faultCause (r : List Byte) (e : Bool) :
    (s.receive r e).faultCause = s.faultCause := rfl
@[simp] theorem receive_faultInfo (r : List Byte) (e : Bool) : (s.receive r e).faultInfo = s.faultInfo := rfl
@[simp] theorem receive_wdata (r : List Byte) (e : Bool) : (s.receive r e).wdata = s.wdata := rfl
@[simp] theorem receive_inputs (r : List Byte) (e : Bool) : (s.receive r e).inputs = s.inputs := rfl
@[simp] theorem receive_wire (r : List Byte) (e : Bool) : (s.receive r e).wire = s.wire := rfl
@[simp] theorem receive_draws (r : List Byte) (e : Bool) :
    (s.receive r e).draws = s.draws + (144 - r.length) := rfl
@[simp] theorem receive_resetDraw (r : List Byte) (e : Bool) : (s.receive r e).resetDraw = s.resetDraw := rfl

/-! ### `State.markSent` -/

@[simp] theorem markSent_cmdBuf (f : List Byte) : (s.markSent f).cmdBuf = s.cmdBuf := rfl
@[simp] theorem markSent_cmdLen (f : List Byte) : (s.markSent f).cmdLen = s.cmdLen := rfl
@[simp] theorem markSent_latKind (f : List Byte) : (s.markSent f).latKind = s.latKind := rfl
@[simp] theorem markSent_latAddr (f : List Byte) : (s.markSent f).latAddr = s.latAddr := rfl
@[simp] theorem markSent_latValid (f : List Byte) : (s.markSent f).latValid = s.latValid := rfl
@[simp] theorem markSent_respBuf (f : List Byte) : (s.markSent f).respBuf = s.respBuf := rfl
@[simp] theorem markSent_respLen (f : List Byte) : (s.markSent f).respLen = s.respLen := rfl
@[simp] theorem markSent_xferErr (f : List Byte) : (s.markSent f).xferErr = s.xferErr := rfl
@[simp] theorem markSent_respFull (f : List Byte) : (s.markSent f).respFull = s.respFull := rfl
@[simp] theorem markSent_resValid (f : List Byte) : (s.markSent f).resValid = s.resValid := rfl
@[simp] theorem markSent_resKind (f : List Byte) : (s.markSent f).resKind = s.resKind := rfl
@[simp] theorem markSent_resAddr (f : List Byte) : (s.markSent f).resAddr = s.resAddr := rfl
@[simp] theorem markSent_outcome (f : List Byte) : (s.markSent f).outcome = s.outcome := rfl
@[simp] theorem markSent_perrCause (f : List Byte) : (s.markSent f).perrCause = s.perrCause := rfl
@[simp] theorem markSent_cardType (f : List Byte) : (s.markSent f).cardType = s.cardType := rfl
@[simp] theorem markSent_ident (f : List Byte) : (s.markSent f).ident = s.ident := rfl
@[simp] theorem markSent_rdata (f : List Byte) : (s.markSent f).rdata = s.rdata := rfl
@[simp] theorem markSent_calcCsum (f : List Byte) : (s.markSent f).calcCsum = s.calcCsum := rfl
@[simp] theorem markSent_endByte (f : List Byte) : (s.markSent f).endByte = s.endByte := rfl
@[simp] theorem markSent_fatal (f : List Byte) : (s.markSent f).fatal = s.fatal := rfl
@[simp] theorem markSent_faultCause (f : List Byte) : (s.markSent f).faultCause = s.faultCause := rfl
@[simp] theorem markSent_faultInfo (f : List Byte) : (s.markSent f).faultInfo = s.faultInfo := rfl
@[simp] theorem markSent_wdata (f : List Byte) : (s.markSent f).wdata = s.wdata := rfl
@[simp] theorem markSent_inputs (f : List Byte) : (s.markSent f).inputs = s.inputs := rfl
@[simp] theorem markSent_wire (f : List Byte) : (s.markSent f).wire = f := rfl
@[simp] theorem markSent_draws (f : List Byte) : (s.markSent f).draws = s.draws := rfl
@[simp] theorem markSent_resetDraw (f : List Byte) : (s.markSent f).resetDraw = s.resetDraw := rfl

/-! ### `State.setCalcCsum` -/

@[simp] theorem setCalcCsum_cmdBuf (c : Byte) : (s.setCalcCsum c).cmdBuf = s.cmdBuf := rfl
@[simp] theorem setCalcCsum_cmdLen (c : Byte) : (s.setCalcCsum c).cmdLen = s.cmdLen := rfl
@[simp] theorem setCalcCsum_latKind (c : Byte) : (s.setCalcCsum c).latKind = s.latKind := rfl
@[simp] theorem setCalcCsum_latAddr (c : Byte) : (s.setCalcCsum c).latAddr = s.latAddr := rfl
@[simp] theorem setCalcCsum_latValid (c : Byte) : (s.setCalcCsum c).latValid = s.latValid := rfl
@[simp] theorem setCalcCsum_respBuf (c : Byte) : (s.setCalcCsum c).respBuf = s.respBuf := rfl
@[simp] theorem setCalcCsum_respLen (c : Byte) : (s.setCalcCsum c).respLen = s.respLen := rfl
@[simp] theorem setCalcCsum_xferErr (c : Byte) : (s.setCalcCsum c).xferErr = s.xferErr := rfl
@[simp] theorem setCalcCsum_respFull (c : Byte) : (s.setCalcCsum c).respFull = s.respFull := rfl
@[simp] theorem setCalcCsum_resValid (c : Byte) : (s.setCalcCsum c).resValid = s.resValid := rfl
@[simp] theorem setCalcCsum_resKind (c : Byte) : (s.setCalcCsum c).resKind = s.resKind := rfl
@[simp] theorem setCalcCsum_resAddr (c : Byte) : (s.setCalcCsum c).resAddr = s.resAddr := rfl
@[simp] theorem setCalcCsum_outcome (c : Byte) : (s.setCalcCsum c).outcome = s.outcome := rfl
@[simp] theorem setCalcCsum_perrCause (c : Byte) : (s.setCalcCsum c).perrCause = s.perrCause := rfl
@[simp] theorem setCalcCsum_cardType (c : Byte) : (s.setCalcCsum c).cardType = s.cardType := rfl
@[simp] theorem setCalcCsum_ident (c : Byte) : (s.setCalcCsum c).ident = s.ident := rfl
@[simp] theorem setCalcCsum_rdata (c : Byte) : (s.setCalcCsum c).rdata = s.rdata := rfl
@[simp] theorem setCalcCsum_calcCsum (c : Byte) : (s.setCalcCsum c).calcCsum = c := rfl
@[simp] theorem setCalcCsum_endByte (c : Byte) : (s.setCalcCsum c).endByte = s.endByte := rfl
@[simp] theorem setCalcCsum_fatal (c : Byte) : (s.setCalcCsum c).fatal = s.fatal := rfl
@[simp] theorem setCalcCsum_faultCause (c : Byte) : (s.setCalcCsum c).faultCause = s.faultCause := rfl
@[simp] theorem setCalcCsum_faultInfo (c : Byte) : (s.setCalcCsum c).faultInfo = s.faultInfo := rfl
@[simp] theorem setCalcCsum_wdata (c : Byte) : (s.setCalcCsum c).wdata = s.wdata := rfl
@[simp] theorem setCalcCsum_inputs (c : Byte) : (s.setCalcCsum c).inputs = s.inputs := rfl
@[simp] theorem setCalcCsum_wire (c : Byte) : (s.setCalcCsum c).wire = s.wire := rfl
@[simp] theorem setCalcCsum_draws (c : Byte) : (s.setCalcCsum c).draws = s.draws := rfl
@[simp] theorem setCalcCsum_resetDraw (c : Byte) : (s.setCalcCsum c).resetDraw = s.resetDraw := rfl

/-! ### `State.recordResults` -/

@[simp] theorem recordResults_cmdBuf (v : Verdict) (d : List Byte) (c e : Byte) :
    (s.recordResults v d c e).cmdBuf = s.cmdBuf := rfl
@[simp] theorem recordResults_cmdLen (v : Verdict) (d : List Byte) (c e : Byte) :
    (s.recordResults v d c e).cmdLen = s.cmdLen := rfl
@[simp] theorem recordResults_latKind (v : Verdict) (d : List Byte) (c e : Byte) :
    (s.recordResults v d c e).latKind = s.latKind := rfl
@[simp] theorem recordResults_latAddr (v : Verdict) (d : List Byte) (c e : Byte) :
    (s.recordResults v d c e).latAddr = s.latAddr := rfl
@[simp] theorem recordResults_latValid (v : Verdict) (d : List Byte) (c e : Byte) :
    (s.recordResults v d c e).latValid = false := rfl
@[simp] theorem recordResults_respBuf (v : Verdict) (d : List Byte) (c e : Byte) :
    (s.recordResults v d c e).respBuf = s.respBuf := rfl
@[simp] theorem recordResults_respLen (v : Verdict) (d : List Byte) (c e : Byte) :
    (s.recordResults v d c e).respLen = s.respLen := rfl
@[simp] theorem recordResults_xferErr (v : Verdict) (d : List Byte) (c e : Byte) :
    (s.recordResults v d c e).xferErr = s.xferErr := rfl
@[simp] theorem recordResults_respFull (v : Verdict) (d : List Byte) (c e : Byte) :
    (s.recordResults v d c e).respFull = false := rfl
@[simp] theorem recordResults_resValid (v : Verdict) (d : List Byte) (c e : Byte) :
    (s.recordResults v d c e).resValid = true := rfl
@[simp] theorem recordResults_resKind (v : Verdict) (d : List Byte) (c e : Byte) :
    (s.recordResults v d c e).resKind = s.latKind := rfl
@[simp] theorem recordResults_resAddr (v : Verdict) (d : List Byte) (c e : Byte) :
    (s.recordResults v d c e).resAddr = s.latAddr := rfl
@[simp] theorem recordResults_outcome (v : Verdict) (d : List Byte) (c e : Byte) :
    (s.recordResults v d c e).outcome = v.outcome := rfl
@[simp] theorem recordResults_perrCause (v : Verdict) (d : List Byte) (c e : Byte) :
    (s.recordResults v d c e).perrCause = v.perrCause := rfl
@[simp] theorem recordResults_cardType (v : Verdict) (d : List Byte) (c e : Byte) :
    (s.recordResults v d c e).cardType = v.cardType := rfl
@[simp] theorem recordResults_ident (v : Verdict) (d : List Byte) (c e : Byte) :
    (s.recordResults v d c e).ident = v.ident := rfl
@[simp] theorem recordResults_rdata (v : Verdict) (d : List Byte) (c e : Byte) :
    (s.recordResults v d c e).rdata = Memory.ofBytes d := rfl
@[simp] theorem recordResults_calcCsum (v : Verdict) (d : List Byte) (c e : Byte) :
    (s.recordResults v d c e).calcCsum = c := rfl
@[simp] theorem recordResults_endByte (v : Verdict) (d : List Byte) (c e : Byte) :
    (s.recordResults v d c e).endByte = e := rfl
@[simp] theorem recordResults_fatal (v : Verdict) (d : List Byte) (c e : Byte) :
    (s.recordResults v d c e).fatal = fatalOf v.outcome := rfl
@[simp] theorem recordResults_faultCause (v : Verdict) (d : List Byte) (c e : Byte) :
    (s.recordResults v d c e).faultCause = s.faultCause := rfl
@[simp] theorem recordResults_faultInfo (v : Verdict) (d : List Byte) (c e : Byte) :
    (s.recordResults v d c e).faultInfo = s.faultInfo := rfl
@[simp] theorem recordResults_wdata (v : Verdict) (d : List Byte) (c e : Byte) :
    (s.recordResults v d c e).wdata = s.wdata := rfl
@[simp] theorem recordResults_inputs (v : Verdict) (d : List Byte) (c e : Byte) :
    (s.recordResults v d c e).inputs = s.inputs := rfl
@[simp] theorem recordResults_wire (v : Verdict) (d : List Byte) (c e : Byte) :
    (s.recordResults v d c e).wire = s.wire := rfl
@[simp] theorem recordResults_draws (v : Verdict) (d : List Byte) (c e : Byte) :
    (s.recordResults v d c e).draws = s.draws := rfl
@[simp] theorem recordResults_resetDraw (v : Verdict) (d : List Byte) (c e : Byte) :
    (s.recordResults v d c e).resetDraw = s.resetDraw := rfl

/-! ### `State.resetFrom` -/

@[simp] theorem resetFrom_cmdBuf : s.resetFrom.cmdBuf = [] := rfl
@[simp] theorem resetFrom_cmdLen : s.resetFrom.cmdLen = 0 := rfl
@[simp] theorem resetFrom_latKind : s.resetFrom.latKind = .verify := rfl
@[simp] theorem resetFrom_latAddr : s.resetFrom.latAddr = 0 := rfl
@[simp] theorem resetFrom_latValid : s.resetFrom.latValid = false := rfl
@[simp] theorem resetFrom_respBuf : s.resetFrom.respBuf = [] := rfl
@[simp] theorem resetFrom_respLen : s.resetFrom.respLen = 0 := rfl
@[simp] theorem resetFrom_xferErr : s.resetFrom.xferErr = false := rfl
@[simp] theorem resetFrom_respFull : s.resetFrom.respFull = false := rfl
@[simp] theorem resetFrom_resValid : s.resetFrom.resValid = false := rfl
@[simp] theorem resetFrom_resKind : s.resetFrom.resKind = .verify := rfl
@[simp] theorem resetFrom_resAddr : s.resetFrom.resAddr = 0 := rfl
@[simp] theorem resetFrom_outcome : s.resetFrom.outcome = 0 := rfl
@[simp] theorem resetFrom_perrCause : s.resetFrom.perrCause = .none := rfl
@[simp] theorem resetFrom_cardType : s.resetFrom.cardType = .none := rfl
@[simp] theorem resetFrom_ident : s.resetFrom.ident = .none := rfl
@[simp] theorem resetFrom_rdata : s.resetFrom.rdata = [] := rfl
@[simp] theorem resetFrom_calcCsum : s.resetFrom.calcCsum = 0 := rfl
@[simp] theorem resetFrom_endByte : s.resetFrom.endByte = 0 := rfl
@[simp] theorem resetFrom_fatal : s.resetFrom.fatal = false := rfl
@[simp] theorem resetFrom_faultCause : s.resetFrom.faultCause = .none := rfl
@[simp] theorem resetFrom_faultInfo : s.resetFrom.faultInfo = 0 := rfl
@[simp] theorem resetFrom_wdata : s.resetFrom.wdata = s.wdata := rfl
@[simp] theorem resetFrom_inputs : s.resetFrom.inputs = s.inputs := rfl
@[simp] theorem resetFrom_wire : s.resetFrom.wire = [] := rfl
@[simp] theorem resetFrom_draws : s.resetFrom.draws = s.draws + resetDraws := rfl
@[simp] theorem resetFrom_resetDraw : s.resetFrom.resetDraw = s.draws := rfl

end Sys2Proof.Machine
end

