-- ==== Sys2Proof/Laws/Ops.lean ====
section
/-! SUPPORT. What each shared operation does, said once: the spaces and their canonical form, and every way a
step can end. Later proofs cite these and do not unfold the operations. -/

namespace Sys2Proof.Machine

variable {s t : State}

/-! ### Memory -/

theorem Memory.byte?_ofBytesFrom (bs : List Byte) (k i : Nat) :
    Memory.byte? (Memory.ofBytesFrom k bs) (k + i) = bs[i]? := by
  induction bs generalizing k i with
  | nil => simp [Memory.ofBytesFrom, Memory.byte?]
  | cons b bs ih =>
    cases i with
    | zero => simp [Memory.ofBytesFrom, Memory.byte?]
    | succ i =>
      have h : k + (i + 1) = (k + 1) + i := by omega
      rw [Memory.ofBytesFrom, Memory.byte?, if_neg (by omega), h, ih]
      simp

/-- A space written as a whole reads back byte for byte. -/
@[simp] theorem Memory.byte?_ofBytes (bs : List Byte) (i : Nat) :
    Memory.byte? (Memory.ofBytes bs) i = bs[i]? := by
  simpa [Memory.ofBytes] using Memory.byte?_ofBytesFrom bs 0 i

theorem Memory.wfFrom_ofBytesFrom (n : Nat) (bs : List Byte) (k : Nat) (h : k + bs.length ≤ n) :
    Memory.wfFrom n k (Memory.ofBytesFrom k bs) = true := by
  induction bs generalizing k with
  | nil => rfl
  | cons b bs ih =>
    simp only [List.length_cons] at h
    simp only [Memory.ofBytesFrom, Memory.wfFrom, ih (k + 1) (by omega), Bool.and_true,
      Bool.and_eq_true, decide_eq_true_eq]
    omega

/-- The one memory operation, writing a whole space, gives the canonical form. -/
theorem Memory.wf_ofBytes (n : Nat) (bs : List Byte) (h : bs.length ≤ n) :
    Memory.wf n (Memory.ofBytes bs) = true :=
  Memory.wfFrom_ofBytesFrom n bs 0 (by omega)

@[simp] theorem Memory.wf_nil (n : Nat) : Memory.wf n [] = true := rfl

/-! ### Reading the spaces -/

/-- What is read depends on the space and on the draws of the last reset alone. -/
theorem readByte_congr (sp : Space) (i : Nat) (h : t.space sp = s.space sp)
    (hd : t.resetDraw = s.resetDraw) : readByte sp i t = readByte sp i s := by
  simp only [readByte, h, hd]

@[simp] theorem space_cmdBuf (s : State) : s.space .cmdBuf = s.cmdBuf := rfl
@[simp] theorem space_respBuf (s : State) : s.space .respBuf = s.respBuf := rfl
@[simp] theorem space_rdata (s : State) : s.space .rdata = s.rdata := rfl

/-- A byte of a space that was written as a whole. -/
theorem readByte_of_ofBytes (sp : Space) (i : Nat) (bs : List Byte)
    (h : s.space sp = Memory.ofBytes bs) (hi : i < bs.length) : readByte sp i s = bs[i] := by
  simp [readByte, h, hi]

@[simp] theorem readBytes_length (sp : Space) (lo n : Nat) (s : State) :
    (readBytes sp lo n s).length = n := by
  simp [readBytes]

@[simp] theorem readBytes_getElem (sp : Space) (lo n : Nat) (s : State) (i : Nat)
    (h : i < (readBytes sp lo n s).length) : (readBytes sp lo n s)[i] = readByte sp (lo + i) s := by
  simp [readBytes]

/-- A run of bytes is what `bs` says if each byte is. -/
theorem readBytes_eq (sp : Space) (lo n : Nat) (s : State) (bs : List Byte) (hn : bs.length = n)
    (h : ∀ i (hi : i < bs.length), readByte sp (lo + i) s = bs[i]) : readBytes sp lo n s = bs := by
  apply List.ext_getElem
  · simp [hn]
  · intro i h1 h2
    rw [readBytes_getElem, h i h2]

/-- A run of bytes of two states is the same if each byte is. -/
theorem readBytes_congr (sp : Space) (lo n : Nat)
    (h : ∀ i < n, readByte sp (lo + i) t = readByte sp (lo + i) s) :
    readBytes sp lo n t = readBytes sp lo n s := by
  apply readBytes_eq
  · simp
  · intro i hi
    rw [readBytes_getElem, h i (by simpa using hi)]

@[simp] theorem wdataBytes_length (s : State) : (wdataBytes s).length = 128 := by
  simp [wdataBytes]

/-- The driven port reads as the 128 bytes driven. -/
@[simp] theorem wdataBytes_driveWdata (s : State) (d : Vector Byte 128) :
    wdataBytes (s.driveWdata d) = d.toList := by
  apply List.ext_getElem
  · simp
  · intro i h1 h2
    have h3 : i < 128 := by simpa using h2
    simp [wdataBytes, wdataByte, h3]

@[simp] theorem wdataBytes_withInputs (s : State) (is : List Input) :
    wdataBytes (s.withInputs is) = wdataBytes s := rfl

/-! ### Whole-space writes, read back -/

/-- A byte of the command an ENC operation has built: the frame's, then 0x00 up to the end (R100). -/
theorem readByte_openExchange (s : State) (k : Kind) (a : Addr) (f : List Byte) (i : Nat)
    (hf : f.length ≤ 144) (hi : i < 144) :
    readByte .cmdBuf i (s.openExchange k a f) = f.getD i 0x00 := by
  rw [readByte_of_ofBytes .cmdBuf _ (f ++ List.replicate (144 - f.length) 0x00)]
  · by_cases h : i < f.length
    · simp [h]
    · simp [List.getElem_append, h]
  · rfl
  · simp; omega

/-- What the transport reads after an ENC operation is the frame it built (R143). -/
theorem commandBytes_openExchange (s : State) (k : Kind) (a : Addr) (f : List Byte)
    (hf : f.length ≤ 144) : commandBytes (s.openExchange k a f) = f := by
  have hn : (BitVec.ofNat 8 f.length).toNat = f.length := by simp; omega
  apply readBytes_eq
  · simp; omega
  · intro i hi
    rw [Nat.zero_add, readByte_openExchange s k a f i hf (by omega)]
    simp [hi]

/-- The command is the same where its bytes and its length are. -/
theorem commandBytes_congr (h : t.cmdBuf = s.cmdBuf) (hn : t.cmdLen = s.cmdLen)
    (hd : t.resetDraw = s.resetDraw) : commandBytes t = commandBytes s := by
  simp only [commandBytes, hn]
  exact readBytes_congr _ _ _ fun i _ => readByte_congr .cmdBuf _ h hd

/-- A byte of a response that was delivered (R142). -/
theorem readByte_receive (s : State) (r : List Byte) (e : Bool) (i : Nat) (_ : r.length ≤ 144)
    (hi : i < r.length) : readByte .respBuf i (s.receive r e) = r[i] := by
  rw [readByte_of_ofBytes .respBuf i _ rfl (by simp; omega), List.getElem_append_left hi]

/-- A byte of `RESP_BUF` past the bytes delivered is the next draw (R142; 93 U2). -/
theorem readByte_receive_past (s : State) (r : List Byte) (e : Bool) (i : Nat)
    (hr : r.length ≤ i) (hi : i < 144) :
    readByte .respBuf i (s.receive r e) = Config.draw (s.draws + (i - r.length)) := by
  rw [readByte_of_ofBytes .respBuf i _ rfl (by simp; omega), List.getElem_append_right hr]
  simp

/-! ### The guard and the block fault -/

/-- The guard passes exactly on a block that is not faulted. -/
theorem whenNotFaulted_eq_next (k : Host.Outcome State Fault Refusal) :
    whenNotFaulted s k = .next t ↔ s.faultCause = .none ∧ k = .next t := by
  unfold whenNotFaulted
  split <;> simp_all

@[simp] theorem whenNotFaulted_running (h : s.faultCause = .none)
    (k : Host.Outcome State Fault Refusal) : whenNotFaulted s k = k := by
  simp [whenNotFaulted, h]

@[simp] theorem whenNotFaulted_stuck (h : s.faultCause ≠ .none)
    (k : Host.Outcome State Fault Refusal) : whenNotFaulted s k = .fault .stuck := by
  simp [whenNotFaulted, h]

theorem raiseFault_eq_next (c : FaultCause) (v : BitVec 16) :
    raiseFault c v s = .next t ↔ t = s.enterFault c v := by
  simp [raiseFault, eq_comm]

/-! ### Every way a meaning can end in a next state -/

/-- The two ways an ENC operation ends in a next state (R100). -/
theorem encCommon_eq_next {cw : ControlWord} {k : Kind} {a : Addr} {f : List Byte} :
    encCommon cw k a f s = .next t ↔ s.faultCause = .none ∧
      ((s.latValid = true ∧ t = s.enterFault .exchangeOutstanding cw) ∨
        (s.latValid = false ∧ t = s.openExchange k a f)) := by
  rw [encCommon, whenNotFaulted_eq_next]
  cases s.latValid <;> simp [raiseFault, eq_comm]

/-- The one way CSUM ends in a next state (R125). -/
theorem execCsum_eq_next {a : Addr} :
    execCsum a s = .next t ↔
      s.faultCause = .none ∧ t = s.setCalcCsum (wdataChecksum a s) := by
  rw [execCsum, whenNotFaulted_eq_next]
  simp [eq_comm]

/-- The three ways DECODE ends in a next state (R150, R151). -/
theorem execDecode_eq_next :
    execDecode s = .next t ↔ s.faultCause = .none ∧
      ((s.latValid = false ∧ t = s.enterFault .noExchange (presentedWord .decode)) ∨
        (s.latValid = true ∧ s.respFull = false ∧
          t = s.enterFault .noResponse (presentedWord .decode)) ∨
        (s.latValid = true ∧ s.respFull = true ∧ t = decodedState s)) := by
  rw [execDecode, whenNotFaulted_eq_next]
  cases s.latValid <;> cases s.respFull <;> simp [raiseFault, eq_comm]

/-- The one way a send ends in a next state (R143). -/
theorem sendFrame_eq_next {f : List Byte} :
    sendFrame f s = .next t ↔
      s.faultCause = .none ∧ maySend f s = true ∧ t = s.markSent f := by
  rw [sendFrame, whenNotFaulted_eq_next]
  cases maySend f s <;> simp [eq_comm]

/-- When a send may happen (R143, R235). -/
theorem maySend_iff {f : List Byte} :
    maySend f s = true ↔
      s.latValid = true ∧ s.respFull = false ∧ s.wire = [] ∧ f = commandBytes s := by
  simp [maySend, and_assoc]

/-- The four ways HOST.DELIVER ends in a next state, in the order of its checks (R141, R142). -/
theorem deliver_eq_next {n : BitVec 8} {r : List Byte} {e : Bool} :
    deliver n r e s = .next t ↔ s.faultCause = .none ∧
      ((144 < n.toNat ∧ t = s.enterFault .badRespLen (n.setWidth 16)) ∨
        (n.toNat ≤ 144 ∧ s.latValid = false ∧
          t = s.enterFault .unexpectedResponse (n.setWidth 16)) ∨
        (n.toNat ≤ 144 ∧ s.latValid = true ∧ s.respFull = true ∧
          t = s.enterFault .responseOverrun (n.setWidth 16)) ∨
        (n.toNat ≤ 144 ∧ s.latValid = true ∧ s.respFull = false ∧ t = s.receive r e)) := by
  rw [deliver, whenNotFaulted_eq_next, bufBytes]
  by_cases h : 144 < n.toNat
  · simp [h, Nat.not_le.mpr h, raiseFault_eq_next]
  · have h' : n.toNat ≤ 144 := by omega
    cases s.latValid <;> cases s.respFull <;> simp [h, h', raiseFault, eq_comm]

/-- HOST.DELIVER takes at most 255 bytes, and is then `deliver` with their number. -/
theorem hostDeliver_eq_next {r : List Byte} {e : Bool} :
    hostDeliver r e s = .next t ↔
      r.length ≤ 255 ∧ deliver (BitVec.ofNat 8 r.length) r e s = .next t := by
  rw [hostDeliver]
  split <;> simp_all

/-- The four ENC operations are one, with the frame of their kind (R100 to R104). -/
theorem exec_encOp (k : Kind) (a : Addr) (s : State) :
    exec (encOp k a) s = encCommon (presentedWord (encOp k a)) k (latchedAddr k a)
      (commandFrame k a (wdataBytes s)) s := by
  cases k <;> rfl

/-- The four sends are one, with the frame of their kind (R79 to R82, R143). -/
theorem exec_wireOp (k : Kind) (a : Addr) (d : List Byte) (s : State) :
    exec (wireOp k a d) s = sendFrame (commandFrame k a d) s := by
  cases k <;> rfl

/-- Every way an instruction ends in a next state: it raises one of its block faults, opens an exchange, writes
`CALC_CSUM`, writes the results, or goes on the wire. -/
theorem exec_eq_next {i : Instr} (h : exec i s = .next t) :
    s.faultCause = .none ∧
      ((∃ c v, c ≠ .none ∧ t = s.enterFault c v) ∨
        (∃ k a, i = encOp k a ∧ s.latValid = false ∧
          t = s.openExchange k (latchedAddr k a) (commandFrame k a (wdataBytes s))) ∨
        (∃ a, i = .csum a ∧ t = s.setCalcCsum (wdataChecksum a s)) ∨
        (i = .decode ∧ s.latValid = true ∧ s.respFull = true ∧ t = decodedState s) ∨
        ∃ f, maySend f s = true ∧ t = s.markSent f) := by
  have enc (k a) (h : exec (encOp k a) s = .next t) :
      s.faultCause = .none ∧ ((∃ c v, c ≠ .none ∧ t = s.enterFault c v) ∨ (s.latValid = false ∧
        t = s.openExchange k (latchedAddr k a) (commandFrame k a (wdataBytes s)))) := by
    rw [exec_encOp] at h
    obtain ⟨hf, ⟨-, ht⟩ | ht⟩ := encCommon_eq_next.mp h
    · exact ⟨hf, .inl ⟨_, _, by simp, ht⟩⟩
    · exact ⟨hf, .inr ht⟩
  have snd {f} (h : sendFrame f s = .next t) :
      s.faultCause = .none ∧ ∃ f, maySend f s = true ∧ t = s.markSent f := by
    obtain ⟨hf, hm, ht⟩ := sendFrame_eq_next.mp h
    exact ⟨hf, _, hm, ht⟩
  cases i with
  | encVerify =>
    obtain ⟨hf, h | ⟨hv, ht⟩⟩ := enc .verify 0 h
    · exact ⟨hf, .inl h⟩
    · exact ⟨hf, .inr (.inl ⟨.verify, 0, rfl, hv, ht⟩)⟩
  | encGetid =>
    obtain ⟨hf, h | ⟨hv, ht⟩⟩ := enc .getId 0 h
    · exact ⟨hf, .inl h⟩
    · exact ⟨hf, .inr (.inl ⟨.getId, 0, rfl, hv, ht⟩)⟩
  | encRead a =>
    obtain ⟨hf, h | ⟨hv, ht⟩⟩ := enc .read a h
    · exact ⟨hf, .inl h⟩
    · exact ⟨hf, .inr (.inl ⟨.read, a, rfl, hv, ht⟩)⟩
  | encWrite a =>
    obtain ⟨hf, h | ⟨hv, ht⟩⟩ := enc .write a h
    · exact ⟨hf, .inl h⟩
    · exact ⟨hf, .inr (.inl ⟨.write, a, rfl, hv, ht⟩)⟩
  | decode =>
    obtain ⟨hf, ⟨-, ht⟩ | ⟨-, -, ht⟩ | ⟨hv, hr, ht⟩⟩ := execDecode_eq_next.mp h
    · exact ⟨hf, .inl ⟨_, _, by simp, ht⟩⟩
    · exact ⟨hf, .inl ⟨_, _, by simp, ht⟩⟩
    · exact ⟨hf, .inr (.inr (.inr (.inl ⟨rfl, hv, hr, ht⟩)))⟩
  | csum a =>
    obtain ⟨hf, ht⟩ := execCsum_eq_next.mp h
    exact ⟨hf, .inr (.inr (.inl ⟨a, rfl, ht⟩))⟩
  | wireVerifyCardType => obtain ⟨hf, h⟩ := snd h; exact ⟨hf, by simp only [h, or_true]⟩
  | wireGetId => obtain ⟨hf, h⟩ := snd h; exact ⟨hf, by simp only [h, or_true]⟩
  | wireReadFrame a => obtain ⟨hf, h⟩ := snd h; exact ⟨hf, by simp only [h, or_true]⟩
  | wireWriteFrame a d c => obtain ⟨hf, h⟩ := snd h; exact ⟨hf, by simp only [h, or_true]⟩

/-- Every way one input ends in a next state. -/
theorem present_eq_next {e : Input} (h : present e s = .next t) :
    (∃ w, e = .control w ∧
      ((∃ i, decode (.controlWord w) = .instr i ∧ exec i s = .next t) ∨
        (∃ why, decode (.controlWord w) = .reject why) ∧ s.faultCause = .none ∧
          t = s.enterFault .illegalOp w)) ∨
    (∃ d, e = .drive d ∧ t = s.driveWdata d) ∨
    (∃ r x, e = .deliver r x ∧ r.length ≤ 255 ∧
      deliver (BitVec.ofNat 8 r.length) r x s = .next t) ∨
    (∃ i, e = .send ∧ decode (.frame (commandBytes s)) = .instr i ∧ exec i s = .next t) ∨
    (∃ r, e = .read r ∧ t = s) ∨
    (e = .reset ∧ t = s.resetFrom) := by
  cases e with
  | control w =>
    simp only [present, presentControlWord] at h
    split at h
    · next i hi => exact .inl ⟨w, rfl, .inl ⟨i, hi, h⟩⟩
    · next why hw =>
      obtain ⟨hf, h⟩ := (whenNotFaulted_eq_next _).mp h
      exact .inl ⟨w, rfl, .inr ⟨⟨why, hw⟩, hf, (raiseFault_eq_next _ _).mp h⟩⟩
  | drive d => simp only [present, Host.Outcome.next.injEq] at h; exact .inr (.inl ⟨d, rfl, h.symm⟩)
  | deliver r x => exact .inr (.inr (.inl ⟨r, x, rfl, hostDeliver_eq_next.mp h⟩))
  | send =>
    simp only [present, transportSend] at h
    split at h
    · next i hi => exact .inr (.inr (.inr (.inl ⟨i, rfl, hi, h⟩)))
    · simp [whenNotFaulted_eq_next] at h
  | read r =>
    simp only [present, hostRead] at h
    split at h
    · simp only [Host.Outcome.next.injEq] at h
      exact .inr (.inr (.inr (.inr (.inl ⟨r, rfl, h.symm⟩))))
    · simp at h
  | reset =>
    simp only [present, Host.Outcome.next.injEq] at h
    exact .inr (.inr (.inr (.inr (.inr ⟨rfl, h.symm⟩))))

/-- A step is the first input taken by the block, or nothing. -/
theorem runNext_eq_next (h : runNext s = .next t) :
    (s.inputs = [] ∧ t = s) ∨
      ∃ e rest, s.inputs = e :: rest ∧ present e (s.withInputs rest) = .next t := by
  unfold runNext at h
  split at h
  · next hn => exact .inl ⟨hn, by simpa using h.symm⟩
  · next e rest hc => exact .inr ⟨e, rest, hc, h⟩

end Sys2Proof.Machine
end

