-- ==== Sys2Proof/Laws/Operands.lean ====
section
/-! SUPPORT. The checksum (R120, R121), the frame layouts' lengths (R4, R89), and the two bytes of an address
(R9). -/

namespace Sys2Proof.Machine

@[simp] theorem xorFold_nil : xorFold [] = 0x00 := rfl

@[simp] theorem xorFold_cons (b : Byte) (l : List Byte) : xorFold (b :: l) = b ^^^ xorFold l := rfl

@[simp] theorem xorFold_append (l m : List Byte) : xorFold (l ++ m) = xorFold l ^^^ xorFold m := by
  induction l with
  | nil => simp
  | cons b l ih => simp [ih, BitVec.xor_assoc]

@[simp] theorem verifyFrame_length : verifyFrame.length = 2 := rfl

@[simp] theorem getIdFrame_length : getIdFrame.length = 14 := rfl

@[simp] theorem readFrame_length (a : Addr) : (readFrame a).length = 144 := by simp [readFrame]

@[simp] theorem writeFrame_length (a : Addr) (d : List Byte) (c : Byte) :
    (writeFrame a d c).length = d.length + 14 := by simp [writeFrame]

/-- A command frame has the length of its kind (R4, R89). -/
theorem commandFrame_length (k : Kind) (a : Addr) (d : List Byte) (h : d.length = 128) :
    (commandFrame k a d).length = cmdLenOf k := by
  cases k <;> simp [commandFrame, cmdLenOf, h]

/-- No command is longer than `CMD_BUF` (R4). -/
theorem cmdLenOf_le (k : Kind) : cmdLenOf k ≤ 144 := by cases k <;> decide

/-- An address is its two bytes (R9). -/
theorem addrOfBytes_msb_lsb (a : Addr) : addrOfBytes (msb a) (lsb a) = a := by
  apply BitVec.eq_of_getLsbD_eq
  intro i hi
  by_cases h : i < 8
  · simp [addrOfBytes, msb, lsb, h, hi]
  · simp [addrOfBytes, msb, lsb, h, hi, show i - 8 < 2 by omega,
      show 8 + (i - 8) = i by omega]

/-- `msb(a)` is at most 0x03 (R77). -/
theorem msb_le (a : Addr) : (msb a).toNat ≤ 3 := by
  have h : (a.extractLsb' 8 2).toNat < 2 ^ 2 := (a.extractLsb' 8 2).isLt
  simp only [msb, BitVec.toNat_setWidth]
  omega

end Sys2Proof.Machine
end

