-- ==== Sys2Proof/Laws/Decode.lean ====
section
/-! SUPPORT. The fields of a control word and of an address, read back from what they were put together from: the
lemmas that the encoding statements rest on. -/

namespace Sys2Proof

open Sys2Proof.Machine

/-- The op code of an assembled control word (R70). -/
@[simp] theorem cwOp_controlWord (op : BitVec 3) (a : Addr) : cwOp (controlWord op a) = op := by
  apply BitVec.eq_of_getLsbD_eq
  intro i hi
  simp [cwOp, controlWord, hi, show i < 16 by omega]

/-- The address of an assembled control word (R70). -/
@[simp] theorem cwAddr_controlWord (op : BitVec 3) (a : Addr) : cwAddr (controlWord op a) = a := by
  apply BitVec.eq_of_getLsbD_eq
  intro i hi
  simp [cwAddr, controlWord, hi, show 3 + i < 16 by omega]

/-- The reserved field of an assembled control word is zero (R73). -/
@[simp] theorem cwRsvd_controlWord (op : BitVec 3) (a : Addr) : cwRsvd (controlWord op a) = 0 := by
  apply BitVec.eq_of_getLsbD_eq
  intro i hi
  simp [cwRsvd, controlWord, hi, show ¬ 13 + i < 3 by omega, show 10 ≤ 13 + i - 3 by omega,
    BitVec.getLsbD_of_ge op (13 + i) (by omega)]

/-- A control word whose reserved field is zero is its op code and its address (R70). -/
theorem controlWord_cwOp_cwAddr (w : ControlWord) (h : cwRsvd w = 0) :
    controlWord (cwOp w) (cwAddr w) = w := by
  apply BitVec.eq_of_getLsbD_eq
  intro i hi
  by_cases h3 : i < 3
  · simp [controlWord, cwOp, h3, hi]
  · by_cases h13 : i < 13
    · simp [controlWord, cwOp, cwAddr, h3, hi, show i - 3 < 10 by omega,
        show 3 + (i - 3) = i by omega]
    · have h' := congrArg (fun x : BitVec 3 => x.getLsbD (i - 13)) h
      simp [cwRsvd, show i - 13 < 3 by omega, show 13 + (i - 13) = i by omega] at h'
      rw [BitVec.getLsbD_eq_getElem hi] at h'
      simp [controlWord, cwOp, cwAddr, h3, hi, show ¬ i - 3 < 10 by omega, h']

/-- The two bytes of an address made of a legal pair of bytes are those bytes (R9, R77). -/
theorem msb_lsb_addrOfBytes (m l : Byte) (h : m.toNat ≤ 3) :
    msb (addrOfBytes m l) = m ∧ lsb (addrOfBytes m l) = l := by
  constructor
  · apply BitVec.eq_of_getLsbD_eq
    intro i hi
    by_cases h2 : i < 2
    · simp [msb, addrOfBytes, h2, hi, show 8 + i < 10 by omega]
    · have hm : m.getLsbD i = false := by
        rw [BitVec.getLsbD, Nat.testBit_lt_two_pow]
        exact Nat.lt_of_le_of_lt h (Nat.lt_of_lt_of_le (by decide : 3 < 2 ^ 2)
          (Nat.pow_le_pow_right (by omega) (by omega)))
      rw [BitVec.getLsbD_eq_getElem hi] at hm
      simp [msb, addrOfBytes, h2, hi, hm]
  · apply BitVec.eq_of_getLsbD_eq
    intro i hi
    simp [lsb, addrOfBytes, hi, show i < 10 by omega]

/-- Placeholders are zeros, and nothing else (R80 to R82). -/
theorem allZero_iff {b : List Byte} : allZero b = true ↔ b = List.replicate b.length 0x00 := by
  simp [allZero, List.eq_replicate_iff]

end Sys2Proof
end

