-- ==== Sys2Proof/Laws/Flags.lean ====
section
/-! SUPPORT. What DECODE finds out, said once: when each status check stops (R152 to R156), what it then records,
and what the field checks record when none stops (R157). -/

namespace Sys2Proof.Machine

variable {s : State} {k : Kind} {a : Addr}

/-! ### The status checks -/

/-- A failed transport stops first (R152). -/
theorem statusStop_transport (h : s.xferErr = true) :
    statusStop k s = some (.transportError, .none) := by
  simp [statusStop, h]

/-- A short response stops second (R153). -/
theorem statusStop_length (h : s.xferErr = false) (hn : s.respLen.toNat < reqLenOf k) :
    statusStop k s = some (.protocolError, .length) := by
  simp [statusStop, h, hn]

/-- The adapter status stops third (R154). -/
theorem statusStop_adapter (h : s.xferErr = false) (hn : reqLenOf k ≤ s.respLen.toNat)
    (h0 : readByte .respBuf 0 s ≠ 0x55) :
    statusStop k s = some (.protocolError, .adapterStatus) := by
  rw [statusStop, if_neg (by simp [h]), if_neg (by omega),
    if_pos (show respByte 0 s ≠ 0x55 from h0)]

/-- The authentication code stops fourth, for a long command (R155). -/
theorem statusStop_authentication (h : s.xferErr = false) (hn : reqLenOf k ≤ s.respLen.toNat)
    (h0 : readByte .respBuf 0 s = 0x55) (hk : k ≠ .verify)
    (h1 : readByte .respBuf 1 s = Config.pAuthFail) :
    statusStop k s = some (.authenticationFailed, .none) := by
  rw [statusStop, if_neg (by simp [h]), if_neg (by omega), if_neg (by simpa [respByte] using h0),
    if_pos ⟨hk, h1⟩]

/-- The command status stops fifth, for a long command (R156). -/
theorem statusStop_command (h : s.xferErr = false) (hn : reqLenOf k ≤ s.respLen.toNat)
    (h0 : readByte .respBuf 0 s = 0x55) (hk : k ≠ .verify)
    (h1 : readByte .respBuf 1 s ≠ Config.pAuthFail) (h2 : readByte .respBuf 1 s ≠ 0x5A) :
    statusStop k s = some (.protocolError, .commandStatus) := by
  rw [statusStop, if_neg (by simp [h]), if_neg (by omega), if_neg (by simpa [respByte] using h0),
    if_neg (by simp [respByte, h1]), if_pos ⟨hk, h2⟩]

/-- No check stops exactly when all have passed. `P_AUTH_FAIL` is not 0x5A, so a good status byte is never the
authentication code (R5). -/
theorem statusStop_eq_none :
    statusStop k s = none ↔ s.xferErr = false ∧ reqLenOf k ≤ s.respLen.toNat ∧
      readByte .respBuf 0 s = 0x55 ∧ (k ≠ .verify → readByte .respBuf 1 s = 0x5A) := by
  constructor
  · intro h
    unfold statusStop at h
    split at h; · cases h
    split at h; · cases h
    split at h; · cases h
    split at h; · cases h
    split at h; · cases h
    rename_i h1 h2 h3 h4 h5
    exact ⟨by simpa using h1, by omega, by simpa [respByte] using h3, fun hk =>
      Classical.byContradiction fun h6 => h5 ⟨hk, h6⟩⟩
  · rintro ⟨h, hn, h0, h1⟩
    rw [statusStop, if_neg (by simp [h]), if_neg (by omega), if_neg (by simpa [respByte] using h0),
      if_neg, if_neg]
    · exact fun hc => hc.2 (h1 hc.1)
    · rintro ⟨hk, hc⟩
      exact Config.pAuthFail_ne ((h1 hk).symm.trans hc).symm

/-- The five ways a status check can stop, with what each records (R152 to R156). -/
theorem statusStop_mem {f : Flag} {c : PErrCause} (h : statusStop k s = some (f, c)) :
    (f, c) ∈ [(Flag.transportError, PErrCause.none), (.protocolError, .length),
      (.protocolError, .adapterStatus), (.authenticationFailed, .none),
      (.protocolError, .commandStatus)] := by
  unfold statusStop at h
  split at h; · simp_all
  split at h; · simp_all
  split at h; · simp_all
  split at h; · simp_all
  split at h; · simp_all
  cases h

/-! ### What is recorded -/

/-- A status check that stops leaves its own bit and cause, no card type and no identity (R157). -/
theorem verdict_of_stop {f : Flag} {c : PErrCause} (h : statusStop k s = some (f, c)) :
    verdict k a s = ⟨withSuccess f.mask, c, .none, .none⟩ := by
  simp [verdict, checks, h, Verdict.decided]

/-- Where no status check stops, the field checks decide (R157). -/
theorem verdict_of_pass (h : statusStop k s = none) :
    verdict k a s = { fieldChecks k a s with outcome := withSuccess (fieldChecks k a s).outcome } := by
  simp [verdict, checks, h, Verdict.decided]

/-- Success is bit 11 and no other (R158). -/
theorem withSuccess_getLsbD (o : BitVec 12) (i : Nat) (hi : i ≠ 11) :
    (withSuccess o).getLsbD i = o.getLsbD i := by
  have h : ∀ i < 12, i ≠ 11 → Flag.success.mask.getLsbD i = false := by decide
  unfold withSuccess
  split
  · by_cases h' : i < 12
    · simp [BitVec.getLsbD_or, h i h' hi]
    · simp [BitVec.getLsbD_of_ge _ _ (Nat.not_lt.mp h')]
  · rfl

/-- A write end byte records one of six outcomes (R186). -/
theorem writeEnd_mem (e : Byte) :
    writeEnd e ∈ [(Flag.memoryEndGood, PErrCause.none), (.memoryEndBadChecksum, .none),
      (.memoryEndBadFrame, .none), (.writeRejectedExecutingFile, .none),
      (.writeRejectedProtectedRegion, .none), (.protocolError, .endByte)] := by
  unfold writeEnd
  repeat' split
  all_goals simp

/-- The signature window is the signature exactly when its eight bytes are (R171). -/
theorem signature_iff :
    readBytes .respBuf 6 8 s = signature ↔
      readByte .respBuf 6 s = 0x5A ∧ readByte .respBuf 7 s = 0x5D ∧
      readByte .respBuf 8 s = 0x5C ∧ readByte .respBuf 9 s = 0x5D ∧
      readByte .respBuf 10 s = 0x04 ∧ readByte .respBuf 11 s = 0x00 ∧
      readByte .respBuf 12 s = 0x00 ∧ readByte .respBuf 13 s = 0x80 := by
  simp [readBytes, signature, List.range']

/-! ### The state after DECODE -/

/-- The verdict that DECODE writes. -/
theorem decodedState_verdict (s : State) :
    (decodedState s).outcome = (verdict s.latKind s.latAddr s).outcome ∧
    (decodedState s).perrCause = (verdict s.latKind s.latAddr s).perrCause ∧
    (decodedState s).cardType = (verdict s.latKind s.latAddr s).cardType ∧
    (decodedState s).ident = (verdict s.latKind s.latAddr s).ident ∧
    (decodedState s).fatal = fatalOf (verdict s.latKind s.latAddr s).outcome := by
  simp [decodedState]

/-- A byte of `RDATA` after DECODE: the response's for a read, 0x00 for every other kind (R179). -/
theorem readByte_rdata_decodedState (s : State) (i : Nat) (hi : i < 128) :
    readByte .rdata i (decodedState s) =
      if s.latKind = .read then readByte .respBuf (14 + i) s else 0x00 := by
  have hl : (decodedData s.latKind s).length = 128 := by
    cases s.latKind <;> simp [decodedData, respData]
  have key : ∀ (k : Kind) (h : i < (decodedData k s).length), (decodedData k s)[i] =
      if k = .read then readByte .respBuf (14 + i) s else 0x00 := by
    intro k h
    cases k <;> simp [decodedData, respData, -List.reduceReplicate]
  rw [readByte_of_ofBytes .rdata i (decodedData s.latKind s) rfl (by omega)]
  exact key _ _

end Sys2Proof.Machine
end

