-- ==== Sys2Proof/Laws/PerInstr.lean ====
section
/-! SUPPORT. Families of statements about an instruction as syntax, one lemma per constructor. -/

namespace Sys2Proof.Laws

/-- The width of an instruction's encoding: a control word, or a frame of `CMD_LEN(kind)` bytes (R70, R89). -/
def Shape.Statement (i : Instr) : Prop :=
  i.wf = true →
    match encode i with
    | .controlWord w => cwRsvd w = 0
    | .frame b => b.length = 2 ∨ b.length = 14 ∨ b.length = 144 ∨ b.length = 142

theorem Shape.encVerify : Shape.Statement .encVerify := fun _ => cwRsvd_controlWord 0 0

theorem Shape.encGetid : Shape.Statement .encGetid := fun _ => cwRsvd_controlWord 1 0

theorem Shape.encRead (a : Addr) : Shape.Statement (.encRead a) := fun _ => cwRsvd_controlWord 2 a

theorem Shape.encWrite (a : Addr) : Shape.Statement (.encWrite a) := fun _ => cwRsvd_controlWord 3 a

theorem Shape.decode : Shape.Statement .decode := fun _ => cwRsvd_controlWord 4 0

theorem Shape.csum (a : Addr) : Shape.Statement (.csum a) := fun _ => cwRsvd_controlWord 5 a

theorem Shape.wireVerifyCardType : Shape.Statement .wireVerifyCardType := fun _ => .inl rfl

theorem Shape.wireGetId : Shape.Statement .wireGetId := fun _ => .inr (.inl rfl)

theorem Shape.wireReadFrame (a : Addr) : Shape.Statement (.wireReadFrame a) :=
  fun _ => .inr (.inr (.inl (Machine.readFrame_length a)))

theorem Shape.wireWriteFrame (a : Addr) (data : List Byte) (checksum : Byte) :
    Shape.Statement (.wireWriteFrame a data checksum) := by
  intro h
  have h : data.length = 128 := by simpa [Instr.wf] using h
  exact .inr (.inr (.inr (by rw [Machine.writeFrame_length, h])))

end Sys2Proof.Laws
end

