-- ==== Sys2Proof/Tests/Slice0.lean ====
section
/-! SUPPORT. Tests. Expected values come from spec/95_test_vectors.md (the vector is named) or are written out from
the encodings of spec/30_encoding.md; then, for every obligation with hypotheses, a state and operands that meet
them. -/

namespace Sys2Proof.Tests

open Sys2Proof Sys2Proof.Machine

set_option Elab.async false

/-! ## Helpers -/

/-- The outcome is a next state of which `p` holds. -/
def nextIs (o : Host.Outcome State Fault Refusal) (p : State → Bool) : Bool :=
  match o with
  | .next t => p t
  | .fault _ => false
  | .refused _ => false

/-- `seq(x, n)` of spec/95_test_vectors.md. -/
def seqBytes (x n : Nat) : List Byte := (List.range n).map fun i => BitVec.ofNat 8 (x + i)

/-- The vectors' `D`: the bytes 0x00 to 0x7F. -/
def dataD : List Byte := seqBytes 0x00 128

/-- Reset, then `WDATA` driven with `d`. -/
def withData (d : List Byte) : State := { State.reset with wdata := Memory.ofBytes d }

/-- Reset, `WDATA` driven with zeros, then the ENC operation of kind `k`. -/
def opened (k : Kind) (a : Addr) : State :=
  (withData (List.replicate 128 0x00)).openExchange k (latchedAddr k a)
    (commandFrame k a (List.replicate 128 0x00))

/-- The same, then HOST.DELIVER. -/
def answered (k : Kind) (a : Addr) (r : List Byte) (err : Bool) : State :=
  (opened k a).receive r err

/-- A block faulted with ILLEGAL_OP, as after vector F1. -/
def faulted : State := State.reset.enterFault .illegalOp 0x0006

/-- `RR(ack, echo, c, e)` of the vectors, with status bytes `b0` and `b1`. -/
def readResponse (b0 b1 : Byte) (ack echo : List Byte) (c e : Byte) : List Byte :=
  [b0, b1] ++ List.replicate 8 0x00 ++ ack ++ echo ++ dataD ++ [c, e]

/-- `WR(e)` of the vectors, with status bytes `b0` and `b1`. -/
def writeResponse (b0 b1 e : Byte) : List Byte := [b0, b1] ++ List.replicate 139 0x00 ++ [e]

/-- `G` of the vectors, with status bytes `b0` and `b1` and last byte `z`. -/
def idResponse (b0 b1 z : Byte) : List Byte :=
  [b0, b1, 0x00, 0x00, 0x00, 0x00, 0x5A, 0x5D, 0x5C, 0x5D, 0x04, 0x00, 0x00, z]

/-- A command status that is neither 0x5A nor `P_AUTH_FAIL`, whatever that is. -/
def otherStatus : Byte := if Config.pAuthFail = 0x00 then 0x01 else 0x00

theorem otherStatus_ne : otherStatus ≠ Config.pAuthFail ∧ otherStatus ≠ 0x5A := by
  unfold otherStatus
  split
  · next h => rw [h]; decide
  · next h => exact ⟨fun hc => h hc.symm, by decide⟩

theorem answered_ready (k : Kind) (a : Addr) (r : List Byte) (e : Bool) :
    (answered k a r e).readyToDecode k := ⟨rfl, rfl, rfl, rfl⟩

theorem answered_byte (k : Kind) (a : Addr) (r : List Byte) (e : Bool) (i : Nat) (b : Byte)
    (h : r.length ≤ 144) (hb : r[i]? = some b) : readByte .respBuf i (answered k a r e) = b := by
  obtain ⟨hi, he⟩ := List.getElem?_eq_some_iff.mp hb
  exact (readByte_receive _ r e i h hi).trans he

/-- A long response with both status bytes good passes the status checks. -/
theorem answered_passes (k : Kind) (a : Addr) (r : List Byte) (hl : r.length ≤ 144)
    (hn : reqLenOf k ≤ r.length) (h0 : r[0]? = some 0x55) (h1 : r[1]? = some 0x5A) :
    longStatusPassed (answered k a r false) k :=
  ⟨rfl, by
    show _ ≤ (BitVec.ofNat 8 r.length).toNat
    simp only [BitVec.toNat_ofNat]
    omega,
    answered_byte k a r false 0 _ hl h0, answered_byte k a r false 1 _ hl h1⟩

/-- What DECODE records for such a response. -/
theorem decode_answered (k : Kind) (a : Addr) (r : List Byte)
    (hp : longStatusPassed (answered k a r false) k) :
    exec .decode (answered k a r false) = .next (decodedState (answered k a r false)) ∧
    (decodedState (answered k a r false)).outcome =
      withSuccess (fieldChecks k (latchedAddr k a) (answered k a r false)).outcome ∧
    (decodedState (answered k a r false)).perrCause =
      (fieldChecks k (latchedAddr k a) (answered k a r false)).perrCause ∧
    (decodedState (answered k a r false)).ident =
      (fieldChecks k (latchedAddr k a) (answered k a r false)).ident := by
  have hs : statusStop k (answered k a r false) = none :=
    statusStop_eq_none.mpr ⟨hp.1, hp.2.1, hp.2.2.1, fun _ => hp.2.2.2⟩
  have hv := verdict_of_pass (a := latchedAddr k a) hs
  obtain ⟨v1, v2, -, v4, -⟩ := decodedState_verdict (answered k a r false)
  have e : verdict (answered k a r false).latKind (answered k a r false).latAddr
      (answered k a r false) = verdict k (latchedAddr k a) (answered k a r false) := rfl
  rw [e, hv] at v1 v2 v4
  exact ⟨execDecode_eq_next.mpr ⟨rfl, .inr (.inr ⟨rfl, rfl, rfl⟩)⟩, v1, v2, v4⟩

/-! ## WellFormed -/

/-- A WriteFrame frame with 127 or 129 data bytes is no instruction; one with 128 is (R82). -/
theorem test_wf_write_data_length :
    (Instr.wireWriteFrame 0 (List.replicate 127 0x00) 0x00).wf = false ∧
    (Instr.wireWriteFrame 0 (List.replicate 129 0x00) 0x00).wf = false ∧
    (Instr.wireWriteFrame 0 (List.replicate 128 0x00) 0x00).wf = true := by decide +kernel

/-! ## Decoding: words and frames written out from the encodings -/

theorem test_decode_encVerify : decode (.controlWord 0b000_0000000000_000#16) = .instr .encVerify := by
  decide

theorem test_decode_encGetid : decode (.controlWord 0b000_0000000000_001#16) = .instr .encGetid := by
  decide

theorem test_decode_encRead :
    decode (.controlWord 0b000_0101010101_010#16) = .instr (.encRead 0x155) := by decide

theorem test_decode_encWrite :
    decode (.controlWord 0b000_0000001111_011#16) = .instr (.encWrite 15) := by decide

theorem test_decode_decode : decode (.controlWord 0b000_0000000000_100#16) = .instr .decode := by decide

theorem test_decode_csum :
    decode (.controlWord 0b000_1111111111_101#16) = .instr (.csum 1023) := by decide

theorem test_decode_wireVerifyCardType :
    decode (.frame [0b10101010#8, 0b01000000#8]) = .instr .wireVerifyCardType := by decide

theorem test_decode_wireGetId :
    decode (.frame [0b10101010#8, 0b01000010#8, 0b00001010#8, 0b00000000#8, 0b10000001#8, 0b01010011#8,
      0, 0, 0, 0, 0, 0, 0, 0]) = .instr .wireGetId := by decide

theorem test_decode_wireReadFrame :
    decode (.frame ([0b10101010#8, 0b01000010#8, 0b10001100#8, 0b00000000#8, 0b10000001#8, 0b01010010#8,
      0, 0, 0b00000001#8, 0b01010101#8] ++ List.replicate 134 0)) = .instr (.wireReadFrame 0x155) := by
  decide +kernel

theorem test_decode_wireWriteFrame :
    decode (.frame ([0b10101010#8, 0b01000010#8, 0b10001010#8, 0b00000000#8, 0b10000001#8, 0b01010111#8,
      0, 0, 0b00000011#8, 0b11111111#8] ++ dataD ++ [0xFC, 0, 0, 0])) =
      .instr (.wireWriteFrame 0x3FF dataD 0xFC) := by
  decide +kernel

/-- E13 to E21: what is not legal, by name. -/
theorem test_decode_illegal_words :
    decode (.controlWord 0x0006) = .reject .reservedOp ∧
    decode (.controlWord 0x0007) = .reject .reservedOp ∧
    decode (.controlWord 0x0008) = .reject .strayAddress ∧
    decode (.controlWord 0x0009) = .reject .strayAddress ∧
    decode (.controlWord 0x000C) = .reject .strayAddress ∧
    decode (.controlWord 0x1FFC) = .reject .strayAddress ∧
    decode (.controlWord 0x2002) = .reject .reservedField ∧
    decode (.controlWord 0x8002) = .reject .reservedField ∧
    decode (.controlWord 0xFFFF) = .reject .reservedField := by decide

/-- Frames that R88 does not recognise, by name. -/
theorem test_decode_other_frames :
    decodeFrame [] = .reject .noMagic ∧
    decodeFrame [0xAB, 0x40] = .reject .noMagic ∧
    decodeFrame [0xAA, 0x41] = .reject .unknownClass ∧
    decodeFrame [0xAA, 0x40, 0x00] = .reject .wrongLength ∧
    decodeFrame [0xAA, 0x42, 0x02, 0x00, 0x81, 0x58] = .reject .unknownOpcode ∧
    decodeFrame [0xAA, 0x42, 0x02, 0x01, 0x81, 0x53] = .reject .wrongConstant ∧
    decodeFrame [0xAA, 0x42, 0x03, 0x00, 0x81, 0x53] = .reject .wrongLength := by decide

/-- Bytes 8 and 9 of 0x04, 0x00 are no frame address (R77), and a placeholder is 0x00 (R81). -/
theorem test_decode_read_frame_fields :
    decodeFrame ([0xAA, 0x42, 0x8C, 0x00, 0x81, 0x52, 0x00, 0x00, 0x04, 0x00] ++
      List.replicate 134 0x00) = .reject .addressRange ∧
    decodeFrame ([0xAA, 0x42, 0x8C, 0x00, 0x81, 0x52, 0x00, 0x00, 0x03, 0xFF] ++
      List.replicate 133 0x00 ++ [0x01]) = .reject .nonzeroPadding := by decide +kernel

/-- The table's words: a control word, and the wire rows with byte 0 most significant, and least. -/
theorem test_table_words :
    decodeTableWord 16 0x0AAA = some (.encRead 0x155) ∧
    decodeTableWord 16 0xAA40 = some .wireVerifyCardType ∧
    decodeTableWord 16 0x40AA = some .wireVerifyCardType ∧
    decodeTableWord 112 0xAA420A0081530000000000000000 = some .wireGetId ∧
    decodeTableWord 80 0xAA428C00815200000155 = some (.wireReadFrame 0x155) ∧
    decodeTableWord 80 0x550100005281008C42AA = some (.wireReadFrame 0x155) ∧
    decodeTableWord 80 0xAA428A008157000003FF =
      some (.wireWriteFrame 0x3FF (List.replicate 128 0x00) 0x00) ∧
    decodeTableWord 16 0x2002 = none := by decide +kernel

/-! ## One step of each instruction -/

/-- EN1. -/
theorem test_encVerify : nextIs (exec .encVerify State.reset) (fun t =>
    readBytes .cmdBuf 0 2 t == [0xAA, 0x40] && readByte .cmdBuf 2 t == 0x00 && t.cmdLen == 2 &&
    t.latKind == .verify && t.latValid) = true := by decide +kernel

/-- EN2. -/
theorem test_encGetid : nextIs (exec .encGetid State.reset) (fun t =>
    commandBytes t ==
      [0xAA, 0x42, 0x0A, 0x00, 0x81, 0x53, 0x00, 0x00, 0x00, 0x00, 0x00, 0x00, 0x00, 0x00] &&
    t.cmdLen == 14 && t.latKind.code == 1) = true := by decide +kernel

/-- EN4. -/
theorem test_encRead : nextIs (exec (.encRead 0x155) State.reset) (fun t =>
    readBytes .cmdBuf 0 10 t == [0xAA, 0x42, 0x8C, 0x00, 0x81, 0x52, 0x00, 0x00, 0x01, 0x55] &&
    readBytes .cmdBuf 10 134 t == List.replicate 134 0x00 && t.cmdLen == 144 &&
    t.latAddr == 0x155) = true := by decide +kernel

/-- F5: the second ENC is a block fault, and the read is kept. -/
theorem test_encGetid_while_outstanding : nextIs (exec .encGetid (opened .read 0)) (fun t =>
    t.faultCause.code == 2 && t.faultInfo == 0x0001 && t.latKind.code == 2 && t.latValid &&
    readBytes .cmdBuf 0 6 t == [0xAA, 0x42, 0x8C, 0x00, 0x81, 0x52]) = true := by decide +kernel

/-- EN7. -/
theorem test_encWrite : nextIs (exec (.encWrite 1023) (withData dataD)) (fun t =>
    commandBytes t == [0xAA, 0x42, 0x8A, 0x00, 0x81, 0x57, 0x00, 0x00, 0x03, 0xFF] ++ dataD ++
      [0xFC, 0x00, 0x00, 0x00] &&
    readBytes .cmdBuf 142 2 t == [0x00, 0x00] && t.cmdLen == 142) = true := by decide +kernel

/-- P4: the generator's byte, and `CALC_CSUM` not written. -/
theorem test_encWrite_checksum :
    nextIs (exec (.encWrite 15) (withData (List.replicate 128 0xA5))) (fun t =>
      readByte .cmdBuf 138 t == 0x0F && t.calcCsum == 0x00) = true := by decide +kernel

/-- E12: CSUM 1023 over zeros. -/
theorem test_csum : nextIs (exec (.csum 1023) (withData (List.replicate 128 0x00))) (fun t =>
    t.calcCsum == 0xFC && !t.latValid) = true := by decide +kernel

/-- CSUM during an open exchange leaves it open (95_test_vectors.md, the non-faults worth testing). -/
theorem test_csum_while_outstanding : nextIs (exec (.csum 1023) (opened .read 0x155)) (fun t =>
    t.calcCsum == 0xFC && t.latValid && t.faultCause == .none) = true := by decide +kernel

/-- K3, K5, K6, K9, K10. -/
theorem test_checksum_vectors :
    checksum 0x01 0x55 dataD = 0x54 ∧ checksum 0x00 0x01 (0xA5 :: List.replicate 127 0x00) = 0xA4 ∧
    checksum 0x01 0x55 dataD.reverse = 0x54 ∧ checksum 0x03 0xE8 dataD = 0xEB ∧
    checksum 0x00 0x2A (List.replicate 127 0x80 ++ [0x00]) = 0xAA := by decide +kernel

/-- DV2, DV6, F6, F7, and DR10: data, checksum and end byte are written after a transport failure too. -/
theorem test_decode_results_and_faults :
    nextIs (exec .decode (answered .verify 0 [0x55, 0x02] false)) (fun t =>
      t.outcome == 0x800 && t.cardType.code == 2 && t.resValid && !t.latValid && !t.respFull &&
      readByte .rdata 127 t == 0x00) = true ∧
    nextIs (exec .decode (answered .verify 0 [0x54, 0x01] false)) (fun t =>
      t.outcome == 0x002 && t.perrCause.code == 2 && t.cardType.code == 0) = true ∧
    nextIs (exec .decode State.reset) (fun t => t.faultCause.code == 3 && t.faultInfo == 0x0004) = true ∧
    nextIs (exec .decode (opened .verify 0)) (fun t =>
      t.faultCause.code == 4 && t.faultInfo == 0x0004 && t.latValid && !t.respFull) = true ∧
    nextIs (exec .decode (answered .read 0x155
      (readResponse 0x55 0x5A [0x5C, 0x5D] [0x01, 0x55] 0x54 0x47) true)) (fun t =>
      t.outcome == 0x001 && t.perrCause == .none && t.calcCsum == 0x54 && t.endByte == 0x47 &&
      readBytes .rdata 0 128 t == dataD) = true := by decide +kernel

/-- DR5: every field check of a read fails, and each is recorded; DG1 and DG2; DW4. -/
theorem test_decode_field_checks :
    (decodedState (answered .read 0x155
      (readResponse 0x55 0x5A [0x00, 0x00] [0x00, 0x00] 0xEE 0xFF) false)).outcome = 0x03A ∧
    (decodedState (answered .read 0x155
      (readResponse 0x55 0x5A [0x00, 0x00] [0x00, 0x00] 0xEE 0xFF) false)).perrCause.code = 4 ∧
    (decodedState (answered .getId 0 (idResponse 0x55 0x5A 0x80) false)).ident = .memoryCard ∧
    (decodedState (answered .getId 0 (idResponse 0x55 0x5A 0x81) false)).ident = .unknown ∧
    (decodedState (answered .write 15 (writeResponse 0x55 0x5A 0xFD) false)).outcome = 0x200 := by
  obtain ⟨-, r1, r2, -⟩ := decode_answered .read 0x155 _ (answered_passes .read 0x155
    (readResponse 0x55 0x5A [0x00, 0x00] [0x00, 0x00] 0xEE 0xFF) (by decide +kernel) (by decide +kernel)
    rfl rfl)
  obtain ⟨-, -, -, g1⟩ := decode_answered .getId 0 _ (answered_passes .getId 0
    (idResponse 0x55 0x5A 0x80) (by decide) (by decide) rfl rfl)
  obtain ⟨-, -, -, g2⟩ := decode_answered .getId 0 _ (answered_passes .getId 0
    (idResponse 0x55 0x5A 0x81) (by decide) (by decide) rfl rfl)
  obtain ⟨-, w1, -, -⟩ := decode_answered .write 15 _ (answered_passes .write 15
    (writeResponse 0x55 0x5A 0xFD) (by decide +kernel) (by decide +kernel) rfl rfl)
  rw [r1, r2, g1, g2, w1]
  decide +kernel

/-- Each wire frame goes on the wire after its ENC operation (R143). -/
theorem test_wire_frames :
    nextIs (exec .wireVerifyCardType (opened .verify 0)) (fun t => t.wire == [0xAA, 0x40]) = true ∧
    nextIs (exec .wireGetId (opened .getId 0)) (fun t =>
      t.wire == [0xAA, 0x42, 0x0A, 0x00, 0x81, 0x53, 0x00, 0x00, 0x00, 0x00, 0x00, 0x00, 0x00, 0x00]) =
      true ∧
    nextIs (exec (.wireReadFrame 0x155) (opened .read 0x155)) (fun t =>
      t.wire.take 10 == [0xAA, 0x42, 0x8C, 0x00, 0x81, 0x52, 0x00, 0x00, 0x01, 0x55]) = true ∧
    nextIs (exec (.wireWriteFrame 15 (List.replicate 128 0x00) 0x0F) (opened .write 15)) (fun t =>
      t.wire.drop 138 == [0x0F, 0x00, 0x00, 0x00]) = true := by decide +kernel

/-- HD1, F8, F10 and F13. -/
theorem test_deliver :
    nextIs (present (.deliver [0x55, 0x01] false) (opened .verify 0)) (fun t =>
      readBytes .respBuf 0 2 t == [0x55, 0x01] && t.respLen == 2 && !t.xferErr && t.respFull) = true ∧
    nextIs (present (.deliver [0x55, 0x01] false) State.reset) (fun t =>
      t.faultCause.code == 5 && t.faultInfo == 0x0002 && !t.respFull) = true ∧
    nextIs (present (.deliver (List.replicate 145 0x00) false) (opened .verify 0)) (fun t =>
      t.faultCause.code == 7 && t.faultInfo == 0x0091 && t.latValid && !t.respFull) = true ∧
    nextIs (present (.deliver (List.replicate 200 0x00) false) State.reset) (fun t =>
      t.faultCause.code == 7 && t.faultInfo == 0x00C8) = true := by decide +kernel

/-- F9, and F1 with P6's end: a faulted block takes no step but reset. -/
theorem test_overrun_and_stuck :
    nextIs (present (.deliver [0x55, 0x01] false) (answered .verify 0 [0x55, 0x01] false)) (fun t =>
      t.faultCause.code == 6 && t.faultInfo == 0x0002 && t.respFull && t.respLen == 2) = true ∧
    present (.control 0x0006) State.reset = .next faulted ∧
    present (.control 0x0000) faulted = .fault .stuck ∧
    nextIs (present .reset faulted) (fun t => t.faultCause == .none && t.faultInfo == 0) = true :=
  ⟨by decide +kernel, rfl, rfl, by decide +kernel⟩

/-- The host's table words run as the first step after reset. -/
theorem test_fetch_words_run :
    nextIs (step (State.reset.withFetchWord 16 0x0AAA)) (fun t => t.latAddr == 0x155 && t.latValid) =
      true ∧
    nextIs (step (State.reset.withFetchWord 80 0xAA428C00815200000155)) (fun t =>
      t.wire.length == 144) = true := by decide +kernel

/-! ## Witnesses: for every obligation with hypotheses, something that meets them -/

theorem witness_LegalControlWords :
    State.reset.faultCause = .none ∧ legal 0x0006 = false ∧ legal 0xE002 = false ∧
    legal 0x1FFD = true := by decide

theorem witness_DecodeOfEncode :
    (Instr.wireWriteFrame 1023 (List.replicate 128 0xFF) 0xFF).wf = true ∧
    (Instr.encRead 1023).wf = true := by decide +kernel

theorem witness_EncodeOfDecode :
    decode (.controlWord 0x1FFB) = .instr (.encWrite 1023) ∧
    decode (.frame [0xAA, 0x40]) = .instr .wireVerifyCardType := by decide

theorem witness_AssemblerWords : (1023 : Nat) < 1024 := by decide

theorem witness_StepRunsTheDecodedInstruction :
    ({ State.reset with inputs := [.control 0x0004] } : State).inputs = .control 0x0004 :: [] ∧
    decode (.controlWord 0x0004) = .instr .decode ∧
    ({ opened .verify 0 with inputs := [.send] } : State).inputs = .send :: [] ∧
    decode (.frame (commandBytes { opened .verify 0 with inputs := [.send] })) =
      .instr .wireVerifyCardType ∧
    ({ State.reset with inputs := [.control 0x0007] } : State).inputs = .control 0x0007 :: [] ∧
    decode (.controlWord 0x0007) = .reject .reservedOp ∧
    ({ State.reset with inputs := [.deliver [] true, .reset] } : State).inputs =
      .deliver [] true :: [.reset] ∧
    State.reset.inputs = [] := by
  decide +kernel

theorem witness_FetchWordIsRunNext :
    decodeTableWord 16 0x0002 = some (.encRead 0) ∧
    decodeTableWord 16 0xAA40 = some .wireVerifyCardType := by decide

theorem witness_EncVerifyBuildsItsCommand :
    State.reset.faultCause = .none ∧ State.reset.latValid = false ∧
    (opened .read 0).faultCause = .none ∧ (opened .read 0).latValid = true ∧
    cwOp 0x1FF8 = 0 ∧ (0x1FF8 : ControlWord) ≠ 0x0000 := by decide +kernel

theorem witness_EncGetidBuildsItsCommand :
    State.reset.faultCause = .none ∧ State.reset.latValid = false ∧
    (opened .read 0).faultCause = .none ∧ (opened .read 0).latValid = true ∧
    cwOp 0x0009 = 1 ∧ (0x0009 : ControlWord) ≠ 0x0001 := by decide +kernel

theorem witness_EncReadBuildsItsCommand :
    State.reset.faultCause = .none ∧ State.reset.latValid = false ∧
    (opened .read 0).faultCause = .none ∧ (opened .read 0).latValid = true ∧
    cwOp 0x2002 = 2 ∧ (0x2002 : ControlWord).extractLsb' 13 3 ≠ 0 := by decide +kernel

theorem witness_EncWriteBuildsItsCommand :
    State.reset.faultCause = .none ∧ State.reset.latValid = false ∧
    (opened .write 15).faultCause = .none ∧ (opened .write 15).latValid = true ∧
    cwOp 0x8003 = 3 ∧ (0x8003 : ControlWord).extractLsb' 13 3 ≠ 0 := by decide +kernel

theorem witness_EncCommonEffectAndFrame :
    State.reset.faultCause = .none ∧ State.reset.latValid = false ∧
    (opened .getId 0).faultCause = .none ∧ (opened .getId 0).latValid = true := by decide +kernel

theorem witness_EncIsAFunctionOfItsOperands :
    (withData dataD).idle ∧ ({ withData dataD with respLen := 7, outcome := 0x840 } : State).idle ∧
    (Kind.write = .write → wdataBytes (withData dataD) =
      wdataBytes { withData dataD with respLen := 7, outcome := 0x840 }) :=
  ⟨⟨rfl, rfl⟩, ⟨rfl, rfl⟩, fun _ => rfl⟩

/-- Clause by clause: a permutation, an entry of a list, and a response whose checksum is right. -/
theorem witness_ChecksumLaws :
    [0x01, 0x02].Perm [(0x02 : Byte), 0x01] ∧ dataD.reverse.Perm dataD ∧
    dataD[127]? = some 0x7F ∧
    readByte .respBuf 142 (answered .read 0x155
      (readResponse 0x55 0x5A [0x5C, 0x5D] [0x01, 0x55] 0x54 0x47) false) =
      xorFold (readBytes .respBuf 12 130 (answered .read 0x155
        (readResponse 0x55 0x5A [0x5C, 0x5D] [0x01, 0x55] 0x54 0x47) false)) :=
  ⟨List.Perm.swap _ _ _, List.reverse_perm _, by decide +kernel, by decide +kernel⟩

theorem witness_EncWriteGeneratesTheChecksum : (withData dataD).idle := ⟨rfl, rfl⟩

theorem witness_CsumWritesCalcCsumOnly :
    State.reset.faultCause = .none ∧
    exec (.csum 0x3FF) State.reset = .next (State.reset.setCalcCsum (wdataChecksum 0x3FF State.reset)) ∧
    cwOp 0x2005 = 5 ∧ (0x2005 : ControlWord).extractLsb' 13 3 ≠ 0 :=
  ⟨rfl, rfl, by decide, by decide⟩

theorem witness_RegisterOnlyInstructionsKeepMemory :
    exec (.csum 0) State.reset = .next (State.reset.setCalcCsum (wdataChecksum 0 State.reset)) ∧
    exec .wireVerifyCardType (opened .verify 0) =
      .next ((opened .verify 0).markSent verifyFrame) :=
  ⟨rfl, (sendFrame_eq_next (s := opened .verify 0) (f := verifyFrame)).mpr
    ⟨rfl, by decide +kernel, rfl⟩⟩

theorem witness_SendPutsTheCommandOnTheWire :
    (∀ k, (opened k 15).faultCause = .none ∧ (opened k 15).latValid = true ∧
      (opened k 15).respFull = false ∧ (opened k 15).wire = []) ∧
    commandBytes (opened .verify 15) = [0xAA, 0x40] ∧
    commandBytes (opened .getId 15) =
      [0xAA, 0x42, 0x0A, 0x00, 0x81, 0x53, 0x00, 0x00, 0x00, 0x00, 0x00, 0x00, 0x00, 0x00] ∧
    commandBytes (opened .read 15) =
      [0xAA, 0x42, 0x8C, 0x00, 0x81, 0x52, 0x00, 0x00, msb 15, lsb 15] ++ List.replicate 134 0x00 ∧
    commandBytes (opened .write 15) =
      [0xAA, 0x42, 0x8A, 0x00, 0x81, 0x57, 0x00, 0x00, msb 15, lsb 15] ++ List.replicate 128 0x00 ++
        [0x0F, 0x00, 0x00, 0x00] :=
  ⟨fun _ => ⟨rfl, rfl, rfl, rfl⟩, by decide +kernel, by decide +kernel, by decide +kernel,
    by decide +kernel⟩

theorem witness_SendAfterEncSendsTheBuiltCommand : State.reset.idle := ⟨rfl, rfl⟩

/-- One state for each way a send is forbidden. -/
theorem witness_ForbiddenSendsAreRefused :
    State.reset.faultCause = .none ∧ State.reset.latValid = false ∧ State.reset.cmdLen = 0 ∧
    (answered .verify 0 [0x55, 0x01] false).respFull = true ∧
    ((opened .verify 0).markSent verifyFrame).wire ≠ [] ∧
    commandBytes (opened .verify 0) ≠ commandFrame .getId 0 [] ∧ faulted.faultCause ≠ .none := by
  decide +kernel

/-- The lengths where the checks meet: 144, 145 and 255. -/
theorem witness_DeliverChecks :
    (List.replicate 255 (0x00 : Byte)).length ≤ 255 ∧
    144 < (List.replicate 145 (0x00 : Byte)).length ∧ (List.replicate 144 (0x00 : Byte)).length ≤ 144 ∧
    State.reset.faultCause = .none ∧ State.reset.latValid = false ∧
    (answered .verify 0 [0x55, 0x01] false).faultCause = .none ∧
    (answered .verify 0 [0x55, 0x01] false).latValid = true ∧
    (answered .verify 0 [0x55, 0x01] false).respFull = true ∧ faulted.faultCause ≠ .none := by
  decide +kernel

theorem witness_DeliverWritesTheResponse :
    (opened .read 0).faultCause = .none ∧ ([] : List Byte).length ≤ 144 ∧
    (List.replicate 144 (0x00 : Byte)).length ≤ 144 ∧ (opened .read 0).latValid = true ∧
    (opened .read 0).respFull = false := by decide +kernel

theorem witness_DecodeNeedsAnExchangeAndAResponse :
    State.reset.faultCause = .none ∧ State.reset.latValid = false ∧
    (opened .verify 0).latValid = true ∧ (opened .verify 0).respFull = false ∧
    (answered .verify 0 [] true).latValid = true ∧ (answered .verify 0 [] true).respFull = true ∧
    cwOp 0x1FFC = 4 ∧ (0x1FFC : ControlWord) ≠ 0x0004 := by decide +kernel

theorem witness_DecodeClosesTheExchange (k : Kind) : (answered k 15 [] true).readyToDecode k :=
  answered_ready k 15 [] true

/-- Each clause of the status checks, at the boundary of its length. -/
theorem witness_StatusChecksInOrder :
    (answered .read 0 [] true).xferErr = true ∧
    (answered .write 0 (List.replicate 141 0x55) false).respLen.toNat < reqLenOf .write ∧
    reqLenOf .getId ≤ (answered .getId 0 (idResponse 0x54 0x5A 0x80) false).respLen.toNat ∧
    readByte .respBuf 0 (answered .getId 0 (idResponse 0x54 0x5A 0x80) false) ≠ 0x55 ∧
    readByte .respBuf 0 (answered .getId 0 (idResponse 0x55 Config.pAuthFail 0x80) false) = 0x55 ∧
    readByte .respBuf 1 (answered .getId 0 (idResponse 0x55 Config.pAuthFail 0x80) false) =
      Config.pAuthFail ∧
    readByte .respBuf 1 (answered .getId 0 (idResponse 0x55 otherStatus 0x80) false) ≠
      Config.pAuthFail ∧
    readByte .respBuf 1 (answered .getId 0 (idResponse 0x55 otherStatus 0x80) false) ≠ 0x5A := by
  refine ⟨rfl, by decide +kernel, by decide, ?_, answered_byte _ _ _ _ _ _ (by decide) rfl,
    answered_byte _ _ _ _ _ _ (by decide) rfl, ?_, ?_⟩
  · rw [answered_byte .getId 0 _ false 0 0x54 (by decide) rfl]; decide
  · rw [answered_byte .getId 0 _ false 1 otherStatus (by decide) rfl]; exact otherStatus_ne.1
  · rw [answered_byte .getId 0 _ false 1 otherStatus (by decide) rfl]; exact otherStatus_ne.2

/-- Each clause of a VERIFY exchange: failed, one byte, wrong adapter status, and the three card types. -/
theorem witness_DecodeOfAVerifyExchange :
    (answered .verify 0 [] true).xferErr = true ∧
    (answered .verify 0 [0x55] false).respLen.toNat < 2 ∧
    2 ≤ (answered .verify 0 [0x54, 0x01] false).respLen.toNat ∧
    readByte .respBuf 0 (answered .verify 0 [0x54, 0x01] false) ≠ 0x55 ∧
    readByte .respBuf 0 (answered .verify 0 [0x55, 0x01] false) = 0x55 ∧
    readByte .respBuf 1 (answered .verify 0 [0x55, 0x01] false) = 0x01 ∧
    readByte .respBuf 1 (answered .verify 0 [0x55, 0x02] false) = 0x02 ∧
    readByte .respBuf 1 (answered .verify 0 [0x55, 0x07] false) ≠ 0x01 ∧
    readByte .respBuf 1 (answered .verify 0 [0x55, 0x07] false) ≠ 0x02 := by decide +kernel

/-- The last clauses of a GETID exchange: too short by one byte, and a good response. -/
theorem witness_DecodeOfAGetIdExchange :
    (answered .getId 0 (List.replicate 13 0x55) false).respLen.toNat < 14 ∧
    longStatusPassed (answered .getId 0 (idResponse 0x55 0x5A 0x80) false) .getId :=
  ⟨by decide, answered_passes .getId 0 _ (by decide) (by decide) rfl rfl⟩

/-- The clauses of a READ exchange: too short by one byte, each status byte wrong, and all status checks passed. -/
theorem witness_DecodeOfAReadExchange :
    (answered .read 0 (List.replicate 143 0x55) false).respLen.toNat < 144 ∧
    readByte .respBuf 0 (answered .read 0
      (readResponse 0xFF 0x5A [0x5C, 0x5D] [0x01, 0x55] 0x54 0x47) false) ≠ 0x55 ∧
    readByte .respBuf 1 (answered .read 0 (readResponse 0x55 Config.pAuthFail
      [0x5C, 0x5D] [0x01, 0x55] 0x54 0x47) false) = Config.pAuthFail ∧
    readByte .respBuf 1 (answered .read 0 (readResponse 0x55 otherStatus
      [0x5C, 0x5D] [0x01, 0x55] 0x54 0x47) false) ≠ Config.pAuthFail ∧
    longStatusPassed (answered .read 0x155
      (readResponse 0x55 0x5A [0x5C, 0x5D] [0x01, 0x55] 0x54 0x47) false) .read := by
  have hl : ∀ b1 : Byte, (readResponse 0x55 b1 [0x5C, 0x5D] [0x01, 0x55] 0x54 0x47).length ≤ 144 := by
    intro b1
    simp [readResponse, dataD, seqBytes]
  refine ⟨by decide +kernel, by decide +kernel, answered_byte _ _ _ _ _ _ (hl _) rfl, ?_,
    answered_passes .read 0x155 _ (hl _) (by decide +kernel) rfl rfl⟩
  rw [answered_byte .read 0 _ false 1 otherStatus (hl _) rfl]
  exact otherStatus_ne.1

/-- Each end byte of a WRITE exchange, and one that is no code. -/
theorem witness_DecodeOfAWriteExchange :
    (answered .write 15 (List.replicate 141 0x55) false).respLen.toNat < 142 ∧
    (∀ e : Byte, readByte .respBuf 141 (answered .write 15 (writeResponse 0x55 0x5A e) false) = e) ∧
    (∀ e : Byte, longStatusPassed (answered .write 15 (writeResponse 0x55 0x5A e) false) .write) ∧
    (0x12 : Byte) ∉ [(0x47 : Byte), 0x4E, 0xFF, 0xFD, 0xFE] := by
  have hl : ∀ e : Byte, (writeResponse 0x55 0x5A e).length = 142 := by
    intro e
    simp [writeResponse]
  refine ⟨by decide +kernel, fun e => answered_byte _ _ _ _ _ _ (by rw [hl]; omega) ?_,
    fun e => answered_passes .write 15 _ (by rw [hl]; omega) (by rw [hl]; decide) rfl rfl, by decide⟩
  simp [writeResponse]

/-- Success with both an unknown card and an unknown identity, and Success of a read and of a write. -/
theorem witness_SuccessExactlyWithoutFailure :
    (decodedState (answered .verify 0 [0x55, 0x07] false)).cardType = .unknown ∧
    (decodedState (answered .verify 0 [0x55, 0x07] false)).outcome.getLsbD 11 = true ∧
    (decodedState (answered .write 15 (writeResponse 0x55 0x5A 0x47) false)).outcome = 0x840 := by
  refine ⟨by decide +kernel, by decide +kernel, ?_⟩
  obtain ⟨-, h1, -, -⟩ := decode_answered .write 15 _ (answered_passes .write 15
    (writeResponse 0x55 0x5A 0x47) (by decide +kernel) (by decide +kernel) rfl rfl)
  rw [h1]
  decide +kernel

theorem witness_OutcomeListInCheckOrder : (answered .read 0 [] true).readyToDecode .read :=
  answered_ready .read 0 [] true

/-- Two GETID responses that differ in byte 2 alone, which no rule reads. -/
theorem witness_UncheckedBytesDoNotMatter :
    (answered .getId 0 (idResponse 0x55 0x5A 0x80) false).readyToDecode .getId ∧
    (∀ i, checkedByte .getId i = true →
      readByte .respBuf i { answered .getId 0 (idResponse 0x55 0x5A 0x80) false with
        respBuf := Memory.ofBytes ([0x55, 0x5A, 0x99] ++ (idResponse 0x55 0x5A 0x80).drop 3) } =
      readByte .respBuf i (answered .getId 0 (idResponse 0x55 0x5A 0x80) false)) := by
  refine ⟨answered_ready _ _ _ _, fun i hi => ?_⟩
  have h14 : i < 14 := by
    by_contra h
    simp [checkedByte, h, show ¬ i < 2 by omega] at hi
  have key : ∀ i < 14, checkedByte .getId i = true →
      readByte .respBuf i { answered .getId 0 (idResponse 0x55 0x5A 0x80) false with
        respBuf := Memory.ofBytes ([0x55, 0x5A, 0x99] ++ (idResponse 0x55 0x5A 0x80).drop 3) } =
      readByte .respBuf i (answered .getId 0 (idResponse 0x55 0x5A 0x80) false) := by decide +kernel
  exact key i h14 hi

theorem witness_FaultEntryIsPrecise :
    State.reset.faultCause = .none ∧ present (.control 0x0006) State.reset = .next faulted ∧
    faulted.faultCause ≠ .none := ⟨rfl, rfl, by decide⟩

theorem witness_FaultsOfEachStep :
    State.reset.faultCause = .none ∧ present (.control 0x0006) State.reset = .next faulted ∧
    present (.control 0x0004) State.reset = .next (State.reset.enterFault .noExchange 0x0004) :=
  ⟨rfl, rfl, rfl⟩

theorem witness_FaultedBlockMovesOnlyByReset :
    faulted.faultCause ≠ .none ∧ ([] : List Byte).length ≤ 255 ∧
    Input.reset ∉ [Input.read (.reg .faultCause), .drive (Vector.replicate 128 0x00)] ∧
    presentAll [.read (.reg .faultCause), .drive (Vector.replicate 128 0x00)] faulted =
      .next (faulted.driveWdata (Vector.replicate 128 0x00)) := by
  refine ⟨by decide, by decide, by simp, rfl⟩

/-- The last byte of each space; the last byte of one and the first of the next have places of their own. -/
theorem witness_ResetClearsEveryRegister :
    143 < Space.size .cmdBuf ∧ 143 < Space.size .respBuf ∧ 127 < Space.size .rdata ∧
    Space.drawBase .respBuf + 143 = Space.drawBase .respBuf + 143 ∧
    Space.drawBase .cmdBuf + 143 ≠ Space.drawBase .respBuf + 0 := by decide

theorem witness_ResetAbandonsTheExchange :
    (List.replicate 144 (0x00 : Byte)).length ≤ 144 ∧ (opened .read 0).latValid = true := by decide +kernel

theorem witness_ExchangeOrderIsEnforced :
    State.reset.faultCause = .none ∧ (opened .verify 0).faultCause = .none ∧
    ([0x55, 0x01] : List Byte).length ≤ 144 := by decide +kernel

theorem witness_CommandIsStable :
    present (.control 0x0004) State.reset = .next (State.reset.enterFault .noExchange 0x0004) ∧
    Input.control 0x0004 ≠ .reset ∧
    ∀ w k a, Input.control 0x0004 = .control w → decode (.controlWord w) ≠ .instr (encOp k a) := by
  refine ⟨rfl, by simp, fun w k a h => ?_⟩
  obtain rfl := Input.control.inj h
  have hd : decode (.controlWord 0x0004) = .instr .decode := by decide
  rw [hd]
  cases k <;> simp [encOp]

theorem witness_ResultsLastUntilTheNextDecode :
    present (.control 0x0000) State.reset = .next (State.reset.openExchange .verify 0 verifyFrame) ∧
    Input.control 0x0000 ≠ .reset ∧ Input.control 0x0000 ≠ .control 0x0004 ∧
    ∀ w a, Input.control 0x0000 = .control w → decode (.controlWord w) ≠ .instr (.csum a) := by
  refine ⟨rfl, by simp, by simp, fun w a h => ?_⟩
  obtain rfl := Input.control.inj h
  have hd : decode (.controlWord 0x0000) = .instr .encVerify := by decide
  rw [hd]
  simp

theorem witness_ResponseIsWrittenByDeliverOnly :
    present (.control 0x0000) State.reset = .next (State.reset.openExchange .verify 0 verifyFrame) ∧
    Input.control 0x0000 ≠ .reset ∧ ∀ r x, Input.control 0x0000 ≠ .deliver r x :=
  ⟨rfl, by simp, by simp⟩

theorem witness_HostReadsHaveNoEffect :
    143 < Space.size .cmdBuf ∧ Space.size .rdata ≤ 128 ∧ 127 < Space.size .rdata := by decide

theorem witness_AuthFailCodeIsAnyOtherByte : (0xAF : Byte) ≠ 0x5A := by decide

theorem witness_StepKeepsMemoryForm :
    State.reset.MemoryForm ∧ step State.reset = .next State.reset :=
  ⟨⟨rfl, rfl, rfl, rfl, by decide⟩, rfl⟩

theorem witness_StepKeepsExchangeForm :
    State.reset.ExchangeForm ∧
    step { State.reset with inputs := [.control 0x0000] } =
      .next (State.reset.openExchange .verify 0 verifyFrame) :=
  ⟨⟨.inl ⟨rfl, rfl, rfl, rfl⟩, fun _ => rfl, by decide, by decide, .inl rfl⟩, rfl⟩

theorem witness_StepKeepsResultForm :
    State.reset.ResultForm ∧ step State.reset = .next State.reset :=
  ⟨⟨fun _ => ⟨rfl, rfl, rfl⟩, by decide, by decide, by decide, by decide, by decide, by decide,
    fun _ => rfl, fun h => absurd h (by decide), fun _ => rfl⟩, rfl⟩

theorem witness_StepKeepsFaultForm :
    State.reset.FaultForm ∧ step State.reset = .next State.reset := ⟨fun _ => rfl, rfl⟩

theorem witness_ReadExchangeEndToEnd :
    State.reset.idle ∧ dataD.length = 128 ∧ (List.replicate 8 (0x00 : Byte)).length = 8 :=
  ⟨⟨rfl, rfl⟩, by decide +kernel, rfl⟩

theorem witness_WriteExchangeEndToEnd :
    State.reset.idle ∧ (List.replicate 139 (0x00 : Byte)).length = 139 ∧
    (0x46 : Byte) ∉ [(0x47 : Byte), 0x4E, 0xFF, 0xFD, 0xFE] := ⟨⟨rfl, rfl⟩, by simp, by decide⟩

theorem witness_FailedTransportEndToEnd :
    State.reset.idle ∧ ([] : List Byte).length ≤ 144 ∧
    (List.replicate 144 (0x00 : Byte)).length ≤ 144 := ⟨⟨rfl, rfl⟩, by simp, by simp⟩

end Sys2Proof.Tests
end

section
/-! PROOFS. The statements of 00_scope.md: the two bytes of a frame address (R9), and the open parameter
`P_AUTH_FAIL` (R5). -/

namespace Sys2Proof

open Sys2Proof.Machine

/-- `msb(a)` as a number (R9). -/
theorem msb_toNat (a : Addr) : (msb a).toNat = a.toNat / 256 := by
  have hdiv : a.toNat >>> 8 = a.toNat / 256 := Nat.shiftRight_eq_div_pow a.toNat 8
  simp only [msb, BitVec.toNat_setWidth, BitVec.extractLsb'_toNat, hdiv]
  omega

/-- `lsb(a)` as a number (R9). -/
theorem lsb_toNat (a : Addr) : (lsb a).toNat = a.toNat % 256 := by
  simp [lsb]

/-- The places below 0x5A name the bytes below 0x5A, and each later place the byte one above it (R5). -/
theorem Config.authFailCode_toNat (ix : Fin 255) :
    (Config.authFailCode ix).toNat = if ix.val < 0x5A then ix.val else ix.val + 1 := by
  rw [Config.authFailCode, BitVec.toNat_ofNat]
  apply Nat.mod_eq_of_lt
  split <;> omega

/-- Every byte but the success status stands at some place among the admissible codes (R5). -/
theorem Config.exists_authFailCode_eq (b : Byte) (hb : b ≠ 0x5A) :
    ∃ ix, Config.authFailCode ix = b := by
  have hlt : b.toNat < 256 := b.isLt
  have hne : b.toNat ≠ 0x5A := fun h => hb (BitVec.eq_of_toNat_eq h)
  by_cases hlow : b.toNat < 0x5A
  · refine ⟨⟨b.toNat, by omega⟩, BitVec.eq_of_toNat_eq ?_⟩
    rw [Config.authFailCode_toNat, if_pos hlow]
  · refine ⟨⟨b.toNat - 1, by omega⟩, BitVec.eq_of_toNat_eq ?_⟩
    have hhigh : ¬ b.toNat - 1 < 0x5A := by omega
    rw [Config.authFailCode_toNat, if_neg hhigh]
    exact Nat.sub_add_cancel (by omega)

/-- Settles O5: the quotient and the remainder by 256, the bits by definition, and the address put together again. -/
theorem addressBytes : Obligations.AddressBytes := fun a =>
  ⟨msb_toNat a, lsb_toNat a, rfl, rfl, addrOfBytes_msb_lsb a⟩

/-- Settles O46: no place names 0x5A, and every other byte has its place. -/
theorem authFailCodeIsAnyOtherByte : Obligations.AuthFailCodeIsAnyOtherByte :=
  ⟨Config.pAuthFail_ne, Config.exists_authFailCode_eq⟩

end Sys2Proof
end

section
/-! PROOFS. Every way the block takes one input, as one list, and how a property that each of them keeps is kept by
a step (R60). -/

namespace Sys2Proof.Machine

/-- What one input does to a block that answers with a next state: it changes nothing, raises a block fault, or
makes the writes of one operation. HOST.DELIVER, the drive of `WDATA` and reset are the only inputs with writes of
their own; an operation's writes are listed for any input. -/
inductive Effect : Input → State → State → Prop where
  | unchanged {e s} : Effect e s s
  | fault {e s} (c : FaultCause) (v : BitVec 16) (running : s.faultCause = .none) (real : c ≠ .none) :
      Effect e s (s.enterFault c v)
  | encode {e s} (k : Kind) (a : Addr) (running : s.faultCause = .none) (closed : s.latValid = false) :
      Effect e s (s.openExchange k (latchedAddr k a) (commandFrame k a (wdataBytes s)))
  | csum {e s} (a : Addr) (running : s.faultCause = .none) :
      Effect e s (s.setCalcCsum (wdataChecksum a s))
  | decode {e s} (running : s.faultCause = .none) (opened : s.latValid = true)
      (waiting : s.respFull = true) : Effect e s (decodedState s)
  | send {e s} (f : List Byte) (running : s.faultCause = .none) (may : maySend f s = true) :
      Effect e s (s.markSent f)
  | drive {s} (d : Vector Byte 128) : Effect (.drive d) s (s.driveWdata d)
  | receive {s} (r : List Byte) (x : Bool) (running : s.faultCause = .none) (short : r.length ≤ 144)
      (opened : s.latValid = true) (awaited : s.respFull = false) :
      Effect (.deliver r x) s (s.receive r x)
  | reset {s} : Effect .reset s s.resetFrom

variable {e : Input} {s t : State}

/-- An instruction's effect is in the list. -/
theorem Effect.of_exec {i : Instr} (h : exec i s = .next t) : Effect e s t := by
  obtain ⟨hf, ⟨c, v, hc, rfl⟩ | ⟨k, a, -, hv, rfl⟩ | ⟨a, -, rfl⟩ | ⟨-, hv, hr, rfl⟩ | ⟨f, hm, rfl⟩⟩ :=
    exec_eq_next h
  · exact .fault c v hf hc
  · exact .encode k a hf hv
  · exact .csum a hf
  · exact .decode hf hv hr
  · exact .send f hf hm

/-- The effect of HOST.DELIVER is in the list (R141, R142). -/
theorem Effect.of_deliver {r : List Byte} {x : Bool} (hr : r.length ≤ 255)
    (h : deliver (BitVec.ofNat 8 r.length) r x s = .next t) : Effect (.deliver r x) s t := by
  have hn : (BitVec.ofNat 8 r.length).toNat = r.length := by
    rw [BitVec.toNat_ofNat]
    omega
  obtain ⟨hf, ⟨-, rfl⟩ | ⟨-, -, rfl⟩ | ⟨-, -, -, rfl⟩ | ⟨hl, hv, hw, rfl⟩⟩ := deliver_eq_next.mp h
  · exact .fault _ _ hf (by simp)
  · exact .fault _ _ hf (by simp)
  · exact .fault _ _ hf (by simp)
  · exact .receive r x hf (hn ▸ hl) hv hw

/-- Every input's effect is in the list. -/
theorem Effect.of_present (h : present e s = .next t) : Effect e s t := by
  obtain ⟨w, rfl, ⟨i, -, hx⟩ | ⟨-, hf, rfl⟩⟩ | ⟨d, rfl, rfl⟩ | ⟨r, x, rfl, hr, hd⟩ | ⟨i, rfl, -, hx⟩ |
    ⟨r, rfl, rfl⟩ | ⟨rfl, rfl⟩ := present_eq_next h
  · exact .of_exec hx
  · exact .fault _ _ hf (by simp)
  · exact .drive d
  · exact .of_deliver hr hd
  · exact .of_exec hx
  · exact .unchanged
  · exact .reset

/-- What every effect keeps, and what does not depend on the inputs still to come, a step keeps (R60). -/
theorem step_keeps {P : State → Prop} (hin : ∀ s is, P s → P (s.withInputs is))
    (heff : ∀ e s t, Effect e s t → P s → P t) (hs : P s) (h : step s = .next t) : P t := by
  obtain ⟨-, rfl⟩ | ⟨e, rest, -, he⟩ := runNext_eq_next h
  · exact hs
  · exact heff e _ t (.of_present he) (hin s rest hs)

end Sys2Proof.Machine
end

section
/-! PROOFS. The exchange registers (R22 to R29, R61, R143): what an ENC operation builds, and what every other effect
leaves of it. -/

namespace Sys2Proof.Machine

variable {e : Input} {s t : State}

/-- The latch holds no address for VERIFY and GETID (R24, R100). -/
theorem addressFits_latchedAddr (k : Kind) (a : Addr) : addressFits k (latchedAddr k a) := by
  rintro (rfl | rfl) <;> rfl

/-- A command is laid out from the latched address alone (R79 to R82). -/
theorem commandFrame_latchedAddr (k : Kind) (a : Addr) (d : List Byte) :
    commandFrame k (latchedAddr k a) d = commandFrame k a d := by
  cases k <;> rfl

/-- An ENC operation builds the command of what it latches (R100). -/
theorem commandBuilt_openExchange (s : State) (k : Kind) (a : Addr) (d : List Byte)
    (hd : d.length = 128) :
    (s.openExchange k (latchedAddr k a) (commandFrame k a d)).CommandBuilt d := by
  have hlen := commandFrame_length k a d hd
  have hle := cmdLenOf_le k
  refine ⟨hd, ?_, fun i hi => ?_⟩
  · rw [openExchange_cmdLen, openExchange_latKind, BitVec.toNat_ofNat, hlen]
    omega
  · rw [readByte_openExchange _ _ _ _ _ (by omega) hi, openExchange_latKind, openExchange_latAddr,
      commandFrame_latchedAddr]

/-- An ENC operation opens a sound exchange: its command is built, nothing of it is sent, no response waits. -/
theorem exchangeForm_openExchange (k : Kind) (a : Addr) (d : List Byte) (hd : d.length = 128)
    (hs : s.ExchangeForm) :
    (s.openExchange k (latchedAddr k a) (commandFrame k a d)).ExchangeForm where
  command := .inr ⟨d, commandBuilt_openExchange s k a d hd⟩
  address := addressFits_latchedAddr k a
  waiting := nofun
  respLen := hs.respLen
  wire := .inl rfl

/-- After a reset nothing is built and nothing waits (R230). -/
theorem exchangeForm_resetFrom (s : State) : s.resetFrom.ExchangeForm where
  command := .inl ⟨rfl, rfl, rfl, rfl⟩
  address := fun _ => rfl
  waiting := nofun
  respLen := Nat.zero_le 144
  wire := .inl rfl

/-- What the transport reads is the same where the command is. -/
theorem sameCommand.commandBytes_eq (hc : sameCommand s t) : commandBytes t = commandBytes s := by
  obtain ⟨hb, hl, -, -⟩ := hc
  rw [commandBytes, hl]
  exact readBytes_congr _ _ _ fun i _ => hb _

/-- A built command is still built where command and latch are the same. -/
theorem sameCommand.commandBuilt (hc : sameCommand s t) {d : List Byte} (h : s.CommandBuilt d) :
    t.CommandBuilt d := by
  obtain ⟨hb, hl, hk, ha⟩ := hc
  refine ⟨h.dataLength, by rw [hl, hk, h.length], fun i hi => ?_⟩
  rw [hb, hk, ha, h.bytes i hi]

/-- The exchange stays sound where the command and the latch are the same and no exchange is opened: only a response,
the end of the exchange, or a send of the outstanding command may be new. -/
theorem sameCommand.exchangeForm (hc : sameCommand s t) (hs : s.ExchangeForm)
    (hopen : s.latValid = false → t.latValid = false)
    (hwait : t.respFull = true → t.latValid = true) (hlen : t.respLen.toNat ≤ 144)
    (hwire : t.wire = s.wire ∨ s.latValid = true ∧ t.wire = commandBytes s) : t.ExchangeForm := by
  have hbytes := hc.commandBytes_eq
  have ⟨_, hl, hk, ha⟩ := hc
  refine ⟨?_, by rw [hk, ha]; exact hs.address, hwait, hlen, ?_⟩
  · obtain ⟨hl0, hv, hk0, hw⟩ | ⟨d, hd⟩ := hs.command
    · have hw' : t.wire = s.wire := hwire.resolve_right fun h => by simp [hv] at h
      exact .inl ⟨hl.trans hl0, hopen hv, hk.trans hk0, hw'.trans hw⟩
    · exact .inr ⟨d, hc.commandBuilt hd⟩
  · obtain hw | ⟨-, hw⟩ := hwire
    · rw [hw, hbytes]
      exact hs.wire
    · exact .inr (hw.trans hbytes.symm)

/-- Inputs still to come are no part of the exchange. -/
theorem exchangeForm_withInputs (s : State) (is : List Input) (hs : s.ExchangeForm) :
    (s.withInputs is).ExchangeForm :=
  sameCommand.exchangeForm (s := s) ⟨fun _ => rfl, rfl, rfl, rfl⟩ hs id hs.waiting hs.respLen (.inl rfl)

/-- Every effect keeps the exchange registers sound. -/
theorem Effect.exchangeForm (h : Effect e s t) (hs : s.ExchangeForm) : t.ExchangeForm := by
  have same {t : State} := sameCommand.exchangeForm (t := t) (s := s)
  cases h with
  | unchanged => exact hs
  | fault | csum | drive =>
    exact same ⟨fun _ => rfl, rfl, rfl, rfl⟩ hs id hs.waiting hs.respLen (.inl rfl)
  | encode k a => exact exchangeForm_openExchange k a _ (wdataBytes_length s) hs
  | decode => exact same ⟨fun _ => rfl, rfl, rfl, rfl⟩ hs (fun _ => rfl) nofun hs.respLen (.inl rfl)
  | send f _ may =>
    obtain ⟨hv, -, -, rfl⟩ := maySend_iff.mp may
    exact same ⟨fun _ => rfl, rfl, rfl, rfl⟩ hs id hs.waiting hs.respLen (.inr ⟨hv, rfl⟩)
  | receive r x _ short opened =>
    have hlen : (BitVec.ofNat 8 r.length).toNat ≤ 144 := (Nat.mod_le ..).trans short
    exact same ⟨fun _ => rfl, rfl, rfl, rfl⟩ hs id (fun _ => opened) hlen (.inl rfl)
  | reset => exact exchangeForm_resetFrom s

/-- Settles O49: every effect of an input keeps the exchange registers sound. -/
theorem stepKeepsExchangeForm : Obligations.StepKeepsExchangeForm := fun _ _ hs h =>
  step_keeps exchangeForm_withInputs (fun _ _ _ => Effect.exchangeForm) hs h

end Sys2Proof.Machine
end

section
/-! PROOFS. The result registers (R30 to R38, R158): what DECODE finds out is sound, and every other effect leaves it. -/

namespace Sys2Proof.Machine

variable {e : Input} {s t : State} {k : Kind}

/-! ### The bits of `OUTCOME` -/

/-- An outcome's mask is its own bit (R31). -/
@[simp] theorem Flag.getLsbD_mask (f : Flag) (i : Nat) : f.mask.getLsbD i = decide (f.bit = i) := by
  have hb : f.bit < 12 := by cases f <;> decide
  rw [Flag.mask, BitVec.getLsbD_shiftLeft, BitVec.getLsbD_one, Bool.eq_iff_iff]
  simp only [Bool.and_eq_true, Bool.not_eq_true', decide_eq_true_eq, decide_eq_false_iff_not]
  omega

/-- A check that does not hold sets no bit, and one that holds sets its own. -/
@[simp] theorem Flag.getLsbD_ifSo (f : Flag) (c : Bool) (i : Nat) :
    (f.ifSo c).getLsbD i = (c && decide (f.bit = i)) := by
  cases c <;> simp [Flag.ifSo]

/-- No two outcomes share a bit (R31). -/
theorem Flag.bit_inj {f g : Flag} : f.bit = g.bit ↔ f = g := by
  cases f <;> cases g <;> decide

/-- The end-byte count reads bits 6 to 10 alone. -/
theorem endBits_congr {o p : BitVec 12} (h : ∀ i, 6 ≤ i → i ≤ 10 → o.getLsbD i = p.getLsbD i) :
    endBits o = endBits p := by
  rw [endBits, endBits, List.filter_congr fun i hi => ?_]
  simp only [List.mem_cons, List.not_mem_nil, or_false] at hi
  exact h i (by omega) (by omega)

/-- One outcome is at most one end-byte outcome. -/
theorem endBits_mask_le (f : Flag) : endBits f.mask ≤ 1 := by
  cases f <;> decide

/-- Deciding Success changes no failure bit (R158). -/
theorem withSuccess_and_failMask (o : BitVec 12) : withSuccess o &&& failMask = o &&& failMask := by
  have hdisjoint : failMask &&& Flag.success.mask = 0#12 := by decide
  rw [withSuccess]
  split
  · rw [BitVec.and_comm, BitVec.and_or_distrib_left, hdisjoint, BitVec.or_zero, BitVec.and_comm]
  · rfl

/-- Where no check records Success, it is recorded exactly when no failure is (R158). -/
theorem success_isIn_withSuccess {o : BitVec 12} (ho : Flag.success.isIn o = false) :
    Flag.success.isIn (withSuccess o) = true ↔ withSuccess o &&& failMask = 0 := by
  rw [withSuccess_and_failMask, withSuccess]
  split
  next h => simp [h, Flag.isIn]
  next h => exact iff_of_false (by simp [ho]) h

/-- Success alone is recorded exactly when the checks record nothing at all (R158). -/
theorem withSuccess_eq_success {o : BitVec 12} (ho : Flag.success.isIn o = false) :
    withSuccess o = 0x800 ↔ o = 0 := by
  refine ⟨fun h => BitVec.eq_of_getLsbD_eq fun i _ => ?_, fun h => h ▸ by decide⟩
  by_cases hi : i = 11
  · rw [hi]
    exact ho
  · rw [← withSuccess_getLsbD o i hi, h, show (0x800 : BitVec 12) = Flag.success.mask from rfl]
    simp [Flag.bit, Ne.symm hi]

/-! ### What the checks record -/

/-- What the checks of a kind may record before Success is decided: at most one end-byte outcome, a cause exactly with
ProtocolError, a card type or an identity exactly where its kind's checks recorded no outcome. -/
structure Verdict.Sound (k : Kind) (v : Verdict) : Prop where
  noSuccess : Flag.success.isIn v.outcome = false
  oneEndByte : endBits v.outcome ≤ 1
  perrCause : v.perrCause ≠ .none ↔ Flag.protocolError.isIn v.outcome = true
  cardType : v.cardType ≠ .none ↔ k = .verify ∧ v.outcome = 0
  ident : v.ident ≠ .none ↔ k = .getId ∧ v.outcome = 0

/-- An outcome and the cause written with it: never Success, and a cause exactly with ProtocolError. -/
def CauseFits (f : Flag) (c : PErrCause) : Prop :=
  f ≠ .success ∧ (c ≠ .none ↔ f = .protocolError)

/-- A status check that stops fits (R152 to R156). -/
theorem causeFits_statusStop {f : Flag} {c : PErrCause} (h : statusStop k s = some (f, c)) :
    CauseFits f c := by
  have hmem := statusStop_mem h
  simp only [List.mem_cons, List.not_mem_nil, or_false, Prod.mk.injEq] at hmem
  obtain ⟨rfl, rfl⟩ | ⟨rfl, rfl⟩ | ⟨rfl, rfl⟩ | ⟨rfl, rfl⟩ | ⟨rfl, rfl⟩ := hmem <;> simp [CauseFits]

/-- A read's end byte fits (R178). -/
theorem causeFits_readEnd (b : Byte) : CauseFits (readEnd b).1 (readEnd b).2 := by
  unfold readEnd
  split <;> simp [CauseFits]

/-- A write's end byte fits (R186). -/
theorem causeFits_writeEnd (b : Byte) : CauseFits (writeEnd b).1 (writeEnd b).2 := by
  have hmem := writeEnd_mem b
  simp only [List.mem_cons, List.not_mem_nil, or_false] at hmem
  obtain h | h | h | h | h | h := hmem <;> simp [h, CauseFits]

/-- Beside one outcome and its cause, bits 3 to 5 (the three mismatches of a read) may be set. -/
theorem Verdict.sound_of_causeFits {f : Flag} {c : PErrCause} (hf : CauseFits f c) (m : BitVec 12)
    (hm : ∀ i, i < 3 ∨ 5 < i → m.getLsbD i = false) : Sound k ⟨m ||| f.mask, c, .none, .none⟩ := by
  obtain ⟨hsuccess, hcause⟩ := hf
  have hbit (i : Nat) (hi : i < 3 ∨ 5 < i) : (m ||| f.mask).getLsbD i = decide (f.bit = i) := by
    rw [BitVec.getLsbD_or, hm i hi, Bool.false_or, Flag.getLsbD_mask]
  have hne : m ||| f.mask ≠ 0 := fun h => by
    simpa using congrArg (BitVec.getLsbD · f.bit) h
  have hend : endBits (m ||| f.mask) ≤ 1 := by
    rw [endBits_congr fun i hi _ => (hbit i (by omega)).trans (f.getLsbD_mask i).symm]
    exact endBits_mask_le f
  exact ⟨(hbit Flag.success.bit (by decide)).trans (decide_eq_false (hsuccess ∘ Flag.bit_inj.mp)), hend,
    hcause.trans (by rw [Flag.isIn, hbit _ (by decide), decide_eq_true_iff, Flag.bit_inj]),
    iff_of_false (absurd rfl) fun h => hne h.2, iff_of_false (absurd rfl) fun h => hne h.2⟩

/-- Where no outcome is recorded, a card type and an identity stand exactly for their kinds. -/
theorem Verdict.sound_of_no_outcome {ct : CardType} {id : Ident} (hct : ct ≠ .none ↔ k = .verify)
    (hid : id ≠ .none ↔ k = .getId) : Sound k ⟨0, .none, ct, id⟩ where
  noSuccess := by simp [Flag.isIn]
  oneEndByte := by simp [endBits]
  perrCause := by simp [Flag.isIn]
  cardType := by simpa using hct
  ident := by simpa using hid

/-- Every byte names some card type (R166). -/
theorem cardTypeOf_ne_none (b : Byte) : cardTypeOf b ≠ .none := by
  unfold cardTypeOf
  split
  · simp
  · split <;> simp

/-- Every window names some identity (R171). -/
theorem identityOf_ne_none (w : List Byte) : identityOf w ≠ .none := by
  unfold identityOf
  split <;> simp

/-- The field checks of every kind are sound (R166, R171, R175 to R178, R186). -/
theorem fieldChecks_sound (k : Kind) (a : Addr) (s : State) : (fieldChecks k a s).Sound k := by
  cases k with
  | verify =>
    exact Verdict.sound_of_no_outcome (iff_of_true (cardTypeOf_ne_none _) rfl) (by simp)
  | getId =>
    exact Verdict.sound_of_no_outcome (by simp) (iff_of_true (identityOf_ne_none _) rfl)
  | read =>
    refine Verdict.sound_of_causeFits (causeFits_readEnd _) _ fun i hi => ?_
    simp only [ackCheck, echoCheck, checksumCheck, BitVec.getLsbD_or, Flag.getLsbD_ifSo, Flag.bit]
    simp [show 3 ≠ i by omega, show 4 ≠ i by omega, show 5 ≠ i by omega]
  | write =>
    simpa [fieldChecks] using
      Verdict.sound_of_causeFits (causeFits_writeEnd (respByte 141 s)) 0 (by simp)

/-- What the checks of R151 record is sound, whether or not a status check stops (R157). -/
theorem checks_sound (k : Kind) (a : Addr) (s : State) : (checks k a s).Sound k := by
  unfold checks
  split
  next f c h => simpa using Verdict.sound_of_causeFits (causeFits_statusStop h) 0 (by simp)
  next => exact fieldChecks_sound k a s

/-! ### The result registers -/

/-- VERIFY and GETID leave `END_BYTE` zero (R37). -/
theorem decodedEnd_of_short (h : k = .verify ∨ k = .getId) : decodedEnd k s = 0x00 := by
  obtain rfl | rfl := h <;> rfl

/-- DECODE writes sound results (R151, R158). -/
theorem resultForm_decodedState (ha : addressFits s.latKind s.latAddr) :
    (decodedState s).ResultForm := by
  have hv := checks_sound s.latKind s.latAddr s
  have hbit (i : Nat) (hi : i ≠ 11) : (decodedState s).outcome.getLsbD i = _ :=
    withSuccess_getLsbD (checks s.latKind s.latAddr s).outcome i hi
  have hgood : (decodedState s).outcome = 0x800 ↔ _ := withSuccess_eq_success hv.noSuccess
  refine
    { reset := nofun
      success := fun _ => success_isIn_withSuccess hv.noSuccess
      oneEndByte := ?_
      perrCause := ?_
      fatal := rfl
      cardType := ?_
      ident := ?_
      address := ha
      rdata := fun _ hk i hi => (readByte_rdata_decodedState s i hi).trans (if_neg hk)
      endByte := decodedEnd_of_short }
  · rw [endBits_congr fun i _ _ => hbit i (by omega)]
    exact hv.oneEndByte
  · rw [Flag.isIn, hbit Flag.protocolError.bit (by decide)]
    exact hv.perrCause
  · rw [hgood]
    exact hv.cardType.trans ⟨fun h => ⟨rfl, h⟩, And.right⟩
  · rw [hgood]
    exact hv.ident.trans ⟨fun h => ⟨rfl, h⟩, And.right⟩

/-- The zeros of reset are sound results (R230). -/
theorem resultForm_resetFrom (s : State) : s.resetFrom.ResultForm where
  reset _ := ⟨rfl, rfl, rfl⟩
  success := nofun
  oneEndByte := by simp [endBits]
  perrCause := by simp [Flag.isIn]
  fatal := by simp [fatalOf]
  cardType := by simp
  ident := by simp
  address _ := rfl
  rdata := nofun
  endByte _ := rfl

/-- The results stay sound where they are the same. -/
theorem sameResults.resultForm (h : sameResults s t) (hs : s.ResultForm) : t.ResultForm := by
  obtain ⟨hvalid, hkind, haddr, hout, hcause, hcard, hident, hrdata, hend, hfatal⟩ := h
  exact
    { reset := by rw [hvalid, hkind, haddr, hout]; exact hs.reset
      success := by rw [hvalid, hout]; exact hs.success
      oneEndByte := by rw [hout]; exact hs.oneEndByte
      perrCause := by rw [hcause, hout]; exact hs.perrCause
      fatal := by rw [hfatal, hout]; exact hs.fatal
      cardType := by rw [hcard, hvalid, hkind, hout]; exact hs.cardType
      ident := by rw [hident, hvalid, hkind, hout]; exact hs.ident
      address := by rw [hkind, haddr]; exact hs.address
      rdata := by simpa only [hvalid, hkind, hrdata] using hs.rdata
      endByte := by rw [hkind, hend]; exact hs.endByte }

/-- Inputs still to come are no result. -/
theorem sameResults_withInputs (s : State) (is : List Input) : sameResults s (s.withInputs is) :=
  ⟨rfl, rfl, rfl, rfl, rfl, rfl, rfl, fun _ => rfl, rfl, rfl⟩

/-- Only DECODE and reset write the results that `sameResults` names. -/
theorem Effect.results (h : Effect e s t) :
    sameResults s t ∨ t = decodedState s ∨ t = s.resetFrom := by
  cases h with
  | unchanged | fault | encode | csum | send | drive | receive =>
    exact .inl ⟨rfl, rfl, rfl, rfl, rfl, rfl, rfl, fun _ => rfl, rfl, rfl⟩
  | decode => exact .inr (.inl rfl)
  | reset => exact .inr (.inr rfl)

/-- Every effect keeps the results sound where the latch of the exchange is. -/
theorem Effect.resultForm (h : Effect e s t) (hx : s.ExchangeForm) (hs : s.ResultForm) :
    t.ResultForm := by
  obtain hsame | rfl | rfl := h.results
  · exact hsame.resultForm hs
  · exact resultForm_decodedState hx.address
  · exact resultForm_resetFrom s

/-- Settles O50: DECODE records sound results of the latched exchange, reset clears them, no other effect writes
them; the exchange form goes along, since DECODE copies the latched kind and address. -/
theorem stepKeepsResultForm : Obligations.StepKeepsResultForm := fun _ _ hx hs h =>
  (step_keeps (P := fun s => s.ExchangeForm ∧ s.ResultForm)
    (fun s is ⟨hx, hs⟩ => ⟨exchangeForm_withInputs s is hx,
      (sameResults_withInputs s is).resultForm hs⟩)
    (fun _ _ _ h ⟨hx, hs⟩ => ⟨h.exchangeForm hx, h.resultForm hx hs⟩) ⟨hx, hs⟩ h).2

end Sys2Proof.Machine
end

section
/-! PROOFS. The other statements of 10_state.md: what DECODE writes, who writes the response, the fault registers, the
codes of the registers, host reads, and the state after reset. -/

namespace Sys2Proof.Machine

variable {e : Input} {s t : State}

/-- What DECODE writes to `CALC_CSUM`, by kind (R36, R124). -/
theorem decodedCsum_eq (k : Kind) (s : State) :
    decodedCsum k s = if k = .read then respChecksum s else 0x00 := by
  cases k <;> rfl

/-- What DECODE writes to `END_BYTE`, by kind (R37). -/
theorem decodedEnd_eq (k : Kind) (s : State) :
    decodedEnd k s = if k = .read then respByte 143 s else if k = .write then respByte 141 s
      else 0x00 := by
  cases k <;> rfl

/-- Settles O26: the block answers with `decodedState`, whose fields are those of R35 to R37 and R151. -/
theorem decodeClosesTheExchange : Obligations.DecodeClosesTheExchange := by
  rintro _ s ⟨hf, hv, hr, rfl⟩
  refine ⟨decodedState s, execDecode_eq_next.mpr ⟨hf, .inr (.inr ⟨hv, hr, rfl⟩)⟩, rfl, rfl, rfl, rfl,
    rfl, rfl, readByte_rdata_decodedState s, decodedCsum_eq _ s, decodedEnd_eq _ s, ?_⟩
  exact ⟨⟨fun _ => rfl, rfl, rfl, rfl⟩, ⟨fun _ => rfl, rfl, rfl⟩, ⟨rfl, rfl⟩, ⟨rfl, rfl⟩, hf, rfl⟩

/-- Settles O44: of the effects only HOST.DELIVER's and reset's touch the response registers (R26 to R28). -/
theorem responseIsWrittenByDeliverOnly : Obligations.ResponseIsWrittenByDeliverOnly := by
  intro e s t h hreset hdeliver
  cases Effect.of_present h with
  | unchanged | fault | encode | csum | decode | send | drive => exact ⟨fun _ => rfl, rfl, rfl⟩
  | receive r x => exact absurd rfl (hdeliver r x)
  | reset => exact absurd rfl hreset

/-- Every effect keeps the fault registers sound: a block fault writes a cause with its information (R203), reset
clears both (R206), and nothing else writes either. -/
theorem Effect.faultForm (h : Effect e s t) (hs : s.FaultForm) : t.FaultForm := by
  cases h with
  | unchanged | encode | csum | decode | send | drive | receive => exact hs
  | fault c v _ real => exact fun h => absurd h real
  | reset => exact fun _ => rfl

/-- Settles O51: every effect of an input keeps the fault registers sound. -/
theorem stepKeepsFaultForm : Obligations.StepKeepsFaultForm := fun _ _ hs h =>
  step_keeps (fun _ _ => id) (fun _ _ _ => Effect.faultForm) hs h

/-- Settles O38: `readReg` reads the code, and the codes are those of the tables. -/
theorem registerCodes : Obligations.RegisterCodes :=
  ⟨fun _ => ⟨rfl, rfl, rfl, rfl, rfl, rfl⟩, rfl, rfl, rfl, rfl, rfl⟩

/-- A host read answers with the state as it is where it names something, and is refused where it does not (R50). -/
theorem present_read (r : HostRead) (s : State) :
    present (.read r) s = if r.exists? = true then .next s else .refused .noSuchIndex := rfl

/-- Settles O45: a register always exists, a byte exactly below its space's size. -/
theorem hostReadsHaveNoEffect : Obligations.HostReadsHaveNoEffect := by
  refine fun s => ⟨fun r => rfl, fun sp i hi => ?_, fun sp i hi => ?_, rfl, rfl, rfl⟩
  · rw [present_read, if_pos (by simpa [HostRead.exists?] using hi)]
  · rw [present_read, if_neg (by simpa [HostRead.exists?] using hi)]

/-- The state after reset is the one a reset leaves on a block that has taken no draw (log entry 3). -/
theorem reset_eq_resetFrom : State.reset = { State.reset with draws := 0 }.resetFrom := rfl

/-- Settles O47: what a reset leaves is sound, and every space is empty. -/
theorem resetIsSound : Obligations.ResetIsSound := by
  refine ⟨⟨rfl, rfl, rfl, rfl, by decide⟩, ?_, ?_, fun _ => rfl⟩
  · exact reset_eq_resetFrom ▸ exchangeForm_resetFrom _
  · exact reset_eq_resetFrom ▸ resultForm_resetFrom _

end Sys2Proof.Machine
end

section
/-! PROOFS. What the frame decoder answers with: the four command frames, their lengths, and no ENC operation. -/

namespace Sys2Proof

/-- The address checks pass a frame on to what reads the rest of it (R53, R92). -/
theorem decodeAddressed_eq_instr {b : List Byte} {k : Addr → Decoded} {i : Instr}
    (h : decodeAddressed b k = .instr i) : ∃ a, k a = .instr i := by
  unfold decodeAddressed at h
  split_ifs at h
  exact ⟨_, h⟩

/-- What decodes as GetId, with its length (R80). -/
theorem decodeGetId_eq_instr {b : List Byte} {i : Instr} (h : decodeGetId b = .instr i) :
    i = .wireGetId ∧ b.length = 14 := by
  unfold decodeGetId at h
  split_ifs at h with hl
  exact ⟨(Decoded.instr.inj h).symm, not_not.mp hl⟩

/-- What decodes as ReadFrame, with its length (R81). -/
theorem decodeReadFrame_eq_instr {b : List Byte} {i : Instr} (h : decodeReadFrame b = .instr i) :
    ∃ a, i = .wireReadFrame a ∧ b.length = 144 := by
  unfold decodeReadFrame at h
  split at h
  · cases h
  · next hl =>
    obtain ⟨a, ha⟩ := decodeAddressed_eq_instr h
    split_ifs at ha
    exact ⟨a, (Decoded.instr.inj ha).symm, not_not.mp hl⟩

/-- What decodes as WriteFrame, with its length (R82). -/
theorem decodeWriteFrame_eq_instr {b : List Byte} {i : Instr} (h : decodeWriteFrame b = .instr i) :
    ∃ a d c, i = .wireWriteFrame a d c ∧ b.length = 142 := by
  unfold decodeWriteFrame at h
  split at h
  · cases h
  · next hl =>
    obtain ⟨a, ha⟩ := decodeAddressed_eq_instr h
    split_ifs at ha
    exact ⟨a, _, _, (Decoded.instr.inj ha).symm, not_not.mp hl⟩

/-- The four command frames that decode, each with its length (R79 to R82, R88). -/
theorem decodeFrame_eq_instr {b : List Byte} {i : Instr} (h : decodeFrame b = .instr i) :
    (i = .wireVerifyCardType ∧ b.length = 2) ∨ (i = .wireGetId ∧ b.length = 14) ∨
      (∃ a, i = .wireReadFrame a ∧ b.length = 144) ∨
      ∃ a d c, i = .wireWriteFrame a d c ∧ b.length = 142 := by
  unfold decodeFrame at h
  split_ifs at h with _ _ hl
  · exact .inl ⟨(Decoded.instr.inj h).symm, hl⟩
  · unfold decodeLong at h
    split_ifs at h
    · exact .inr (.inl (decodeGetId_eq_instr h))
    · exact .inr (.inr (.inl (decodeReadFrame_eq_instr h)))
    · exact .inr (.inr (.inr (decodeWriteFrame_eq_instr h)))

/-- A frame that decodes fits into `CMD_BUF` (R4, R89). -/
theorem length_le_of_decodeFrame {b : List Byte} {i : Instr} (h : decodeFrame b = .instr i) :
    b.length ≤ 144 := by
  obtain ⟨-, hl⟩ | ⟨-, hl⟩ | ⟨-, -, hl⟩ | ⟨-, -, -, -, hl⟩ := decodeFrame_eq_instr h <;> omega

/-- No frame is an ENC operation: those are control words (R71, R88). -/
theorem ne_encOp_of_decodeFrame {b : List Byte} {i : Instr} (h : decodeFrame b = .instr i)
    (k : Machine.Kind) (a : Addr) : i ≠ Machine.encOp k a := by
  obtain ⟨rfl, -⟩ | ⟨rfl, -⟩ | ⟨a, rfl, -⟩ | ⟨a, d, c, rfl, -⟩ := decodeFrame_eq_instr h <;>
    cases k <;> exact nofun

/-- The instruction of a decoder's answer is there exactly when it answers with one. -/
theorem Decoded.instr?_eq_some {d : Decoded} {i : Instr} : d.instr? = some i ↔ d = .instr i := by
  cases d <;> simp [Decoded.instr?]

end Sys2Proof
end

section
/-! PROOFS. The statements of 20_memory.md: the order of the inputs (R60), the order of an exchange (R61), the command
between two ENC operations (R63), and the canonical form of the spaces with the draws of each step (R50, R56). -/

namespace Sys2Proof.Machine

variable {e : Input} {s t : State}

/-! ### The order of the inputs (R60) -/

/-- A step presents the first input and takes it off the list. -/
theorem step_of_inputs_cons {rest : List Input} (h : s.inputs = e :: rest) :
    step s = present e (s.withInputs rest) := by
  simp only [step, runNext, h]

/-- A block that is presented nothing stays as it is (R21). -/
theorem step_of_inputs_nil (h : s.inputs = []) : step s = .next s := by
  simp only [step, runNext, h]

/-- A control word that decodes runs its operation (R70). -/
theorem present_control_of_instr {w : ControlWord} {i : Instr} (h : decode (.controlWord w) = .instr i)
    (s : State) : present (.control w) s = exec i s := by
  simp only [present, presentControlWord, h]

/-- A control word that does not decode is ILLEGAL_OP (R74). -/
theorem present_control_of_reject {w : ControlWord} {why : Reject}
    (h : decode (.controlWord w) = .reject why) (hf : s.faultCause = .none) :
    present (.control w) s = .next (s.enterFault .illegalOp w) := by
  simp only [present, presentControlWord, h, whenNotFaulted_running hf, raiseFault]

/-- A send runs the command that `CMD_BUF` holds (R143). -/
theorem present_send_of_instr {i : Instr} (h : decode (.frame (commandBytes s)) = .instr i) :
    present .send s = exec i s := by
  simp only [present, transportSend, h]

/-- Settles O7: the first input is presented, and the decoder's answer says what it does. -/
theorem stepRunsTheDecodedInstruction : Obligations.StepRunsTheDecodedInstruction := by
  refine ⟨fun s w rest i hs hd => ?_, fun s rest i hs hd => ?_, fun s w rest why hs hd hf => ?_,
    fun s e rest hs => step_of_inputs_cons hs, fun s hs => step_of_inputs_nil hs⟩
  · exact (step_of_inputs_cons hs).trans (present_control_of_instr hd _)
  · exact (step_of_inputs_cons hs).trans (present_send_of_instr hd)
  · exact (step_of_inputs_cons hs).trans (present_control_of_reject hd hf)

/-- What is placed and decodes runs next: a control word at the port, a frame as the outstanding command. -/
theorem step_placeFetched {f : Fetched} {i : Instr} (h : decode f = .instr i) (s : State) :
    step (s.placeFetched f) = exec i ((s.placeFetched f).withInputs s.inputs) := by
  cases f with
  | controlWord w =>
    exact (step_of_inputs_cons rfl).trans (present_control_of_instr h _)
  | frame b =>
    have hb : commandBytes ((s.placeFetched (.frame b)).withInputs s.inputs) = b :=
      commandBytes_openExchange s _ _ b (length_le_of_decodeFrame h)
    exact (step_of_inputs_cons rfl).trans (present_send_of_instr (hb.symm ▸ h))

/-- Settles O8: the table word stands where its instruction is fetched, and that decodes to it. -/
theorem fetchWordIsRunNext : Obligations.FetchWordIsRunNext := fun s _ _ _ h =>
  step_placeFetched (Decoded.instr?_eq_some.mp h) s

/-! ### The order of an exchange (R61, R234, R236) -/

/-- An ENC operation is admitted exactly when no exchange is outstanding (R61, R100). -/
theorem exec_encOp_admitted (hf : s.faultCause = .none) (k : Kind) (a : Addr) :
    ∃ t, exec (encOp k a) s = .next t ∧ (t.faultCause = .none ↔ s.latValid = false) := by
  simp only [exec_encOp, encCommon_eq_next]
  cases hv : s.latValid with
  | false => exact ⟨_, ⟨hf, .inr ⟨rfl, rfl⟩⟩, by simp [hf]⟩
  | true => exact ⟨_, ⟨hf, .inl ⟨rfl, rfl⟩⟩, by simp⟩

/-- A response that fits is admitted exactly when one is awaited (R61, R141). -/
theorem present_deliver_admitted (hf : s.faultCause = .none) {r : List Byte} (hr : r.length ≤ 144)
    (x : Bool) : ∃ t, present (.deliver r x) s = .next t ∧
      (t.faultCause = .none ↔ s.latValid = true ∧ s.respFull = false) := by
  have hn : (BitVec.ofNat 8 r.length).toNat ≤ 144 := (Nat.mod_le ..).trans hr
  have hport : r.length ≤ 255 := by omega
  simp only [present, hostDeliver_eq_next, deliver_eq_next, hport, hn, hf, true_and]
  cases hv : s.latValid with
  | false => exact ⟨_, .inr (.inl ⟨rfl, rfl⟩), by simp⟩
  | true =>
    cases hw : s.respFull with
    | false => exact ⟨_, .inr (.inr (.inr ⟨rfl, rfl, rfl⟩)), by simp [hf]⟩
    | true => exact ⟨_, .inr (.inr (.inl ⟨rfl, rfl, rfl⟩)), by simp⟩

/-- DECODE is admitted exactly when a response waits in an exchange (R61, R150). -/
theorem exec_decode_admitted (hf : s.faultCause = .none) :
    ∃ t, exec .decode s = .next t ∧
      (t.faultCause = .none ↔ s.latValid = true ∧ s.respFull = true) := by
  simp only [exec, execDecode_eq_next]
  cases hv : s.latValid with
  | false => exact ⟨_, ⟨hf, .inl ⟨rfl, rfl⟩⟩, by simp⟩
  | true =>
    cases hw : s.respFull with
    | false => exact ⟨_, ⟨hf, .inr (.inl ⟨rfl, rfl, rfl⟩)⟩, by simp⟩
    | true => exact ⟨_, ⟨hf, .inr (.inr ⟨rfl, rfl, rfl⟩)⟩, by simp [decodedState, hf]⟩

/-- Settles O41: each operation's checks read `LAT_VALID` and `RESP_FULL` alone, and CSUM has none. -/
theorem exchangeOrderIsEnforced : Obligations.ExchangeOrderIsEnforced := fun _ hf =>
  ⟨exec_encOp_admitted hf, fun _ x hr => present_deliver_admitted hf hr x, exec_decode_admitted hf,
    fun _ => ⟨_, execCsum_eq_next.mpr ⟨hf, rfl⟩, hf, rfl, rfl⟩⟩

/-! ### The command between two ENC operations (R63) -/

/-- No instruction but an ENC operation writes the command (R63). -/
theorem sameCommand_of_exec {i : Instr} (h : exec i s = .next t) (hi : ∀ k a, i ≠ encOp k a) :
    sameCommand s t := by
  obtain ⟨-, ⟨c, v, -, rfl⟩ | ⟨k, a, hk, -⟩ | ⟨a, -, rfl⟩ | ⟨-, -, -, rfl⟩ | ⟨f, -, rfl⟩⟩ :=
    exec_eq_next h
  case inr.inl => exact absurd hk (hi k a)
  all_goals exact ⟨fun _ => rfl, rfl, rfl, rfl⟩

/-- HOST.DELIVER does not write the command, whether it faults or not (R141, R142). -/
theorem sameCommand_of_deliver {n : BitVec 8} {r : List Byte} {x : Bool}
    (h : deliver n r x s = .next t) : sameCommand s t := by
  obtain ⟨-, ⟨-, rfl⟩ | ⟨-, -, rfl⟩ | ⟨-, -, -, rfl⟩ | ⟨-, -, -, rfl⟩⟩ := deliver_eq_next.mp h
  all_goals exact ⟨fun _ => rfl, rfl, rfl, rfl⟩

/-- Settles O42: of the inputs only reset and the control word of an ENC operation reach the command; a send runs a
frame, and no frame is an ENC operation. -/
theorem commandIsStable : Obligations.CommandIsStable := by
  intro e s t h hreset henc
  obtain ⟨w, he, ⟨i, hd, hx⟩ | ⟨-, -, rfl⟩⟩ | ⟨d, -, rfl⟩ | ⟨r, x, -, -, hd⟩ | ⟨i, -, hd, hx⟩ |
    ⟨r, -, rfl⟩ | ⟨he, -⟩ := present_eq_next h
  · exact sameCommand_of_exec hx fun k a hi => henc w k a he (hi ▸ hd)
  · exact ⟨fun _ => rfl, rfl, rfl, rfl⟩
  · exact ⟨fun _ => rfl, rfl, rfl, rfl⟩
  · exact sameCommand_of_deliver hd
  · exact sameCommand_of_exec hx (ne_encOp_of_decodeFrame hd)
  · exact ⟨fun _ => rfl, rfl, rfl, rfl⟩
  · exact absurd he hreset

/-! ### The form of the spaces, and the draws (R8, R50, R56) -/

/-- DECODE writes all of `RDATA` (R35, R179). -/
theorem decodedData_length (k : Kind) (s : State) : (decodedData k s).length = 128 := by
  cases k <;> simp [decodedData, respData]

/-- Every effect keeps the canonical form: each writes a whole space or none (R56). -/
theorem Effect.memoryForm (h : Effect e s t) (hs : s.MemoryForm) : t.MemoryForm := by
  obtain ⟨hcmd, hresp, hrdata, hwdata, hdraws⟩ := hs
  cases h with
  | unchanged | fault | csum | send => exact ⟨hcmd, hresp, hrdata, hwdata, hdraws⟩
  | encode k a =>
    have hle := cmdLenOf_le k
    have hlen := commandFrame_length k a _ (wdataBytes_length s)
    exact ⟨Memory.wf_ofBytes _ _ (by simp [hlen]; omega), hresp, hrdata, hwdata, hdraws⟩
  | decode =>
    exact ⟨hcmd, hresp, Memory.wf_ofBytes _ _ (decodedData_length _ s).le, hwdata, hdraws⟩
  | drive d => exact ⟨hcmd, hresp, hrdata, Memory.wf_ofBytes _ _ (by simp), hdraws⟩
  | receive r x _ short =>
    exact ⟨hcmd, Memory.wf_ofBytes _ _ (by simp; omega), hrdata, hwdata,
      hdraws.trans (Nat.le_add_right ..)⟩
  | reset => exact ⟨rfl, rfl, rfl, hwdata, le_rfl⟩

/-- Inputs still to come are in no space. -/
theorem memoryForm_withInputs (s : State) (is : List Input) (hs : s.MemoryForm) :
    (s.withInputs is).MemoryForm :=
  ⟨hs.cmdBuf, hs.respBuf, hs.rdata, hs.wdata, hs.draws⟩

/-- A reset leaves in every byte its own new draw (R230). -/
theorem readByte_resetFrom (sp : Space) (i : Nat) (s : State) :
    readByte sp i s.resetFrom = Config.draw (s.draws + sp.drawBase + i) := by
  cases sp <;> rfl

/-- The draws between two states: none, with the response kept; those of a reset, one for each byte of the spaces; or
those of HOST.DELIVER, one for each byte of `RESP_BUF` past the response (R142, R230; log entry 3). -/
def DrawsTaken (s t : State) : Prop :=
  (t.draws = s.draws ∧ t.resetDraw = s.resetDraw ∧
      ∀ i, readByte .respBuf i t = readByte .respBuf i s) ∨
    (t.resetDraw = s.draws ∧ t.draws = s.draws + resetDraws ∧
      ∀ sp i, i < Space.size sp → readByte sp i t = Config.draw (s.draws + Space.drawBase sp + i)) ∨
    (t.resetDraw = s.resetDraw ∧ t.draws = s.draws + (144 - t.respLen.toNat) ∧
      ∀ i, t.respLen.toNat ≤ i → i < 144 →
        readByte .respBuf i t = Config.draw (s.draws + (i - t.respLen.toNat)))

/-- The counter never goes back. -/
theorem DrawsTaken.draws_le (h : DrawsTaken s t) : s.draws ≤ t.draws := by
  obtain ⟨h, -⟩ | ⟨-, h, -⟩ | ⟨-, h, -⟩ := h <;> omega

/-- HOST.DELIVER takes the draws past the response (R142). -/
theorem drawsTaken_receive (s : State) {r : List Byte} (hr : r.length ≤ 144) (x : Bool) :
    DrawsTaken s (s.receive r x) := by
  have hn : (s.receive r x).respLen.toNat = r.length := by
    rw [receive_respLen, BitVec.toNat_ofNat]
    omega
  refine .inr (.inr ⟨rfl, by rw [hn, receive_draws], fun i hlo hi => ?_⟩)
  rw [hn] at hlo ⊢
  exact readByte_receive_past s r x i hlo hi

/-- Every effect takes the draws of a reset, those of HOST.DELIVER, or none. -/
theorem Effect.drawsTaken (h : Effect e s t) : DrawsTaken s t := by
  cases h with
  | unchanged | fault | encode | csum | decode | send | drive => exact .inl ⟨rfl, rfl, fun _ => rfl⟩
  | receive r x _ short => exact drawsTaken_receive s short x
  | reset => exact .inr (.inl ⟨rfl, rfl, fun sp i _ => readByte_resetFrom sp i s⟩)

/-- A step takes the draws of its input. -/
theorem drawsTaken_of_step (h : step s = .next t) : DrawsTaken s t := by
  obtain ⟨-, rfl⟩ | ⟨e, rest, -, he⟩ := runNext_eq_next h
  · exact .inl ⟨rfl, rfl, fun _ => rfl⟩
  · exact (Effect.of_present he).drawsTaken

/-- Settles O48: every effect of an input keeps the canonical form, and takes only new draws. -/
theorem stepKeepsMemoryForm : Obligations.StepKeepsMemoryForm := fun _ _ hs h =>
  have hd := drawsTaken_of_step h
  ⟨step_keeps memoryForm_withInputs (fun _ _ _ => Effect.memoryForm) hs h, hd.draws_le, hd⟩

end Sys2Proof.Machine
end

section
/-! PROOFS. The control words (R70 to R75, R90): the words that decode are the encodings of the operations, and these
are the legal ones. -/

namespace Sys2Proof

open Sys2Proof.Machine

variable {w : ControlWord} {i j : Instr} {a : Addr}

/-! ### Decoding and encoding -/

/-- An operation without an address decodes exactly where the address field is zero (R72). -/
theorem withoutAddress_eq_instr : withoutAddress a i = .instr j ↔ a = 0 ∧ i = j := by
  unfold withoutAddress
  split <;> simp_all

/-- The control word of an operation decodes to it (R71). -/
theorem decodeControlWord_of_encode (h : encode i = .controlWord w) : decodeControlWord w = .instr i := by
  cases i <;> cases h <;> simp [decodeControlWord, withoutAddress]

/-- A word whose reserved field is zero is its op code, by number, and its address (R70). -/
theorem controlWord_of_cwOp_toNat (hr : cwRsvd w = 0) {op : BitVec 3} (ho : (cwOp w).toNat = op.toNat) :
    controlWord op (cwAddr w) = w := by
  rw [← BitVec.eq_of_toNat_eq ho, controlWord_cwOp_cwAddr w hr]

/-- A control word that decodes is the encoding of its operation: no bit of it is unread (R70 to R73). -/
theorem encode_of_decodeControlWord (h : decodeControlWord w = .instr i) : encode i = .controlWord w := by
  unfold decodeControlWord at h
  split at h
  · cases h
  · next hr =>
    have hw {op : BitVec 3} := controlWord_of_cwOp_toNat (not_not.mp hr) (op := op)
    split at h
    · next ho =>
      obtain ⟨ha, rfl⟩ := withoutAddress_eq_instr.mp h
      exact congrArg Fetched.controlWord (ha ▸ hw (op := 0) ho)
    · next ho =>
      obtain ⟨ha, rfl⟩ := withoutAddress_eq_instr.mp h
      exact congrArg Fetched.controlWord (ha ▸ hw (op := 1) ho)
    · next ho => cases h; exact congrArg Fetched.controlWord (hw (op := 2) ho)
    · next ho => cases h; exact congrArg Fetched.controlWord (hw (op := 3) ho)
    · next ho =>
      obtain ⟨ha, rfl⟩ := withoutAddress_eq_instr.mp h
      exact congrArg Fetched.controlWord (ha ▸ hw (op := 4) ho)
    · next ho => cases h; exact congrArg Fetched.controlWord (hw (op := 5) ho)
    · cases h

/-- The control words that decode to an operation are its encoding alone. -/
theorem decodeControlWord_eq_instr : decodeControlWord w = .instr i ↔ encode i = .controlWord w :=
  ⟨encode_of_decodeControlWord, decodeControlWord_of_encode⟩

/-- An instruction that has a control word is well-formed: only a frame can carry data of a wrong length. -/
theorem wf_of_encode_eq_controlWord (h : encode i = .controlWord w) : i.wf = true := by
  cases i <;> cases h <;> rfl

/-! ### The legal words (R74) -/

/-- `legal(CW)`, read as a proposition (R74). -/
theorem legal_iff : legal w = true ↔ cwRsvd w = 0 ∧ (cwOp w).toNat ≤ 5 ∧
    (cwOp w = 2 ∨ cwOp w = 3 ∨ cwOp w = 5 ∨ cwAddr w = 0) := by
  simp [legal, and_assoc, or_assoc]

/-- A word is one of the six operations' exactly where it is a bare word or of a family with an address (R71, R72). -/
theorem exists_encode_iff : (∃ i, encode i = .controlWord w) ↔
    w = 0x0000 ∨ w = 0x0001 ∨ w = 0x0004 ∨
      ∃ a : Addr, w = (a.setWidth 16 <<< 3) ||| 2 ∨ w = (a.setWidth 16 <<< 3) ||| 3 ∨
        w = (a.setWidth 16 <<< 3) ||| 5 := by
  constructor
  · rintro ⟨i, h⟩
    cases i with
    | encVerify => cases h; exact .inl rfl
    | encGetid => cases h; exact .inr (.inl rfl)
    | decode => cases h; exact .inr (.inr (.inl rfl))
    | encRead a => cases h; exact .inr (.inr (.inr ⟨a, .inl rfl⟩))
    | encWrite a => cases h; exact .inr (.inr (.inr ⟨a, .inr (.inl rfl)⟩))
    | csum a => cases h; exact .inr (.inr (.inr ⟨a, .inr (.inr rfl)⟩))
    | wireVerifyCardType | wireGetId | wireReadFrame | wireWriteFrame => cases h
  · rintro (rfl | rfl | rfl | ⟨a, rfl | rfl | rfl⟩)
    · exact ⟨.encVerify, rfl⟩
    · exact ⟨.encGetid, rfl⟩
    · exact ⟨.decode, rfl⟩
    · exact ⟨.encRead a, rfl⟩
    · exact ⟨.encWrite a, rfl⟩
    · exact ⟨.csum a, rfl⟩

/-- The control word of an operation is legal. -/
theorem legal_of_encode (h : encode i = .controlWord w) : legal w = true := by
  cases i <;> cases h <;> simp [legal_iff]

/-- A legal word is the control word of some operation. -/
theorem exists_encode_of_legal (h : legal w = true) : ∃ i, encode i = .controlWord w := by
  obtain ⟨hr, hop, hform⟩ := legal_iff.mp h
  rw [← controlWord_cwOp_cwAddr w hr]
  obtain h2 | h3 | h5 | ha := hform
  · exact ⟨.encRead (cwAddr w), by rw [h2]; rfl⟩
  · exact ⟨.encWrite (cwAddr w), by rw [h3]; rfl⟩
  · exact ⟨.csum (cwAddr w), by rw [h5]; rfl⟩
  · have bare : ∀ op : BitVec 3, op.toNat ≤ 5 →
        encode .encVerify = .controlWord (controlWord op 0) ∨
        encode .encGetid = .controlWord (controlWord op 0) ∨
        encode (.encRead 0) = .controlWord (controlWord op 0) ∨
        encode (.encWrite 0) = .controlWord (controlWord op 0) ∨
        encode .decode = .controlWord (controlWord op 0) ∨
        encode (.csum 0) = .controlWord (controlWord op 0) := by decide
    rw [ha]
    obtain h | h | h | h | h | h := bare (cwOp w) hop <;> exact ⟨_, h⟩

/-- The legal words are the operations' control words (R71, R74). -/
theorem legal_iff_exists_encode : legal w = true ↔ ∃ i, encode i = .controlWord w :=
  ⟨exists_encode_of_legal, fun ⟨_, h⟩ => legal_of_encode h⟩

/-- The legal words are those that decode (R74). -/
theorem legal_iff_exists_decode : legal w = true ↔ ∃ i, decode (.controlWord w) = .instr i :=
  legal_iff_exists_encode.trans (exists_congr fun _ => decodeControlWord_eq_instr.symm)

/-- An illegal word on a block that is not faulted is ILLEGAL_OP and nothing else (R74, R203). -/
theorem raisesIllegalOp_of_illegal {s : State} (hf : s.faultCause = .none) (hw : legal w = false) :
    raisesIllegalOp w s := by
  cases hd : decode (.controlWord w) with
  | instr i => simp [legal_iff_exists_decode.mpr ⟨i, hd⟩] at hw
  | reject why => exact present_control_of_reject hd hf

/-! ### How many words are legal -/

/-- Of the eight words with the bits 15..3 of `a`, those below the reserved field, with an op code of R71, and with
an address only where the operation takes one, are legal (R74). -/
theorem legal_block_iff {a k : Nat} (ha : a < 8192) (hk : k < 8) :
    legal (BitVec.ofNat 16 (8 * a + k)) = true ↔
      a < 1024 ∧ k ≤ 5 ∧ (k = 2 ∨ k = 3 ∨ k = 5 ∨ a = 0) := by
  have hop : (cwOp (BitVec.ofNat 16 (8 * a + k))).toNat = k := by
    simp [cwOp]
    omega
  have haddr : (cwAddr (BitVec.ofNat 16 (8 * a + k))).toNat = a % 1024 := by
    simp [cwAddr, Nat.shiftRight_eq_div_pow]
    omega
  have hrsvd : (cwRsvd (BitVec.ofNat 16 (8 * a + k))).toNat = a / 1024 := by
    simp [cwRsvd, Nat.shiftRight_eq_div_pow]
    omega
  simp only [legal_iff, ← BitVec.toNat_inj, hop, haddr, hrsvd]
  simp
  omega

/-- How many of the eight words with the same bits 15..3 are legal: six without an address, three with one, none with
a reserved bit. -/
theorem count_legal_block {a : Nat} (ha : a < 8192) :
    Nat.count (fun k => legal (BitVec.ofNat 16 (8 * a + k)) = true) 8 =
      if a = 0 then 6 else if a < 1024 then 3 else 0 := by
  have hcount : Nat.count (fun k => legal (BitVec.ofNat 16 (8 * a + k)) = true) 8 =
      (List.range 8).countP fun k => a < 1024 ∧ k ≤ 5 ∧ (k = 2 ∨ k = 3 ∨ k = 5 ∨ a = 0) :=
    List.countP_congr fun k hk => by simpa using legal_block_iff ha (List.mem_range.mp hk)
  rw [hcount]
  split_ifs with h0 hlt
  · subst h0
    decide
  · simp only [h0, hlt, true_and, or_false]
    decide
  · simp [hlt]

/-- How many of the first `8 * m` words are legal: the three bare words, and three for each address. -/
theorem count_legal (m : Nat) (hm : m < 8192) :
    Nat.count (fun n => legal (BitVec.ofNat 16 n) = true) (8 * (m + 1)) = 3 + 3 * min (m + 1) 1024 := by
  induction m with
  | zero => simpa using count_legal_block (a := 0) (by decide)
  | succ m ih =>
    rw [Nat.mul_succ, Nat.count_add, ih (by omega), count_legal_block hm]
    rw [if_neg (Nat.succ_ne_zero m)]
    split_ifs <;> omega

/-- 3075 of the 65536 control words are legal (R74). -/
theorem length_filter_legal :
    ((List.range 65536).filter fun n => legal (BitVec.ofNat 16 n)).length = 3075 := by
  have h := count_legal 8191 (by decide)
  rw [Nat.count, List.countP_eq_length_filter] at h
  simpa using h

/-- Settles O2: the legal words are the operations' control words, counted eight by eight. -/
theorem legalControlWords : Obligations.LegalControlWords :=
  ⟨fun _ => legal_iff, fun _ => legal_iff_exists_decode,
    fun _ => legal_iff_exists_encode.trans exists_encode_iff, length_filter_legal,
    fun _ _ => raisesIllegalOp_of_illegal⟩

end Sys2Proof
end

section
/-! PROOFS. The command frames (R78 to R82, R88): what the frame decoder has read when it answers with an instruction,
and the round trips of the whole decoder. -/

namespace Sys2Proof

open Sys2Proof.Machine

variable {b : List Byte} {i : Instr} {opc : Byte}

/-! ### A frame from its bytes -/

/-- A list is its first `n` bytes, one by one, and the rest. -/
theorem eq_map_getD_append_drop (b : List Byte) {n : Nat} (h : n ≤ b.length) :
    b = (List.range n).map (fun j => b.getD j 0) ++ b.drop n := by
  have htake : b.take n = (List.range n).map fun j => b.getD j 0 := by
    apply List.ext_getElem
    · simpa using h
    · intro j hj _
      have hjb : j < b.length := (List.length_take_le' ..).trans_lt' hj
      simp [hjb]
  rw [← htake, List.take_append_drop]

/-- The last `n` bytes of a list are zeros where the decoder finds them all 0x00. -/
theorem drop_eq_replicate_of_allZero {n : Nat} (h : allZero (b.drop n) = true) :
    b.drop n = List.replicate (b.length - n) 0x00 := by
  simpa using allZero_iff.mp h

/-- The first six bytes of a long command: magic, class, the length less 4, two constants and the op code (R78, R92). -/
structure LongHeader (opc : Byte) (b : List Byte) : Prop where
  magic : b.getD 0 0 = 0xAA
  cls : b.getD 1 0 = 0x42
  length : b.length = (b.getD 2 0).toNat + 4
  zero : b.getD 3 0 = 0x00
  const : b.getD 4 0 = 0x81
  opcode : b.getD 5 0 = opc

/-- Byte 2 of a long command is its length less 4 (R78). -/
theorem LongHeader.lengthByte (h : LongHeader opc b) : b.getD 2 0 = BitVec.ofNat 8 (b.length - 4) := by
  rw [h.length, Nat.add_sub_cancel, BitVec.ofNat_toNat, BitVec.setWidth_eq]

/-- A long command from its header (R78). -/
theorem LongHeader.eq_append (h : LongHeader opc b) (hl : 6 ≤ b.length) :
    b = [0xAA, 0x42, BitVec.ofNat 8 (b.length - 4), 0x00, 0x81, opc] ++ b.drop 6 := by
  calc b = (List.range 6).map (fun j => b.getD j 0) ++ b.drop 6 := eq_map_getD_append_drop b hl
    _ = [b.getD 0 0, b.getD 1 0, b.getD 2 0, b.getD 3 0, b.getD 4 0, b.getD 5 0] ++ b.drop 6 := rfl
    _ = _ := by rw [h.magic, h.cls, h.lengthByte, h.zero, h.const, h.opcode]

/-- The four ways a frame decodes: the two bytes of VerifyCardType, or the header of a long command and what reads the
rest of it (R79, R88). -/
theorem decodeFrame_cases (h : decodeFrame b = .instr i) :
    (b.getD 0 0 = 0xAA ∧ b.getD 1 0 = 0x40 ∧ b.length = 2 ∧ i = .wireVerifyCardType) ∨
      (LongHeader 0x53 b ∧ decodeGetId b = .instr i) ∨
      (LongHeader 0x52 b ∧ decodeReadFrame b = .instr i) ∨
      (LongHeader 0x57 b ∧ decodeWriteFrame b = .instr i) := by
  unfold decodeFrame at h
  split_ifs at h with h0 h1 hl h1'
  · exact .inl ⟨not_not.mp h0, h1, hl, (Decoded.instr.inj h).symm⟩
  · unfold decodeLong at h
    split_ifs at h with hl hc h53 h52 h57
    all_goals
      obtain ⟨h3, h4⟩ := not_or.mp hc
      have header {opc : Byte} (h5 : b.getD 5 0 = opc) : LongHeader opc b :=
        ⟨not_not.mp h0, h1', not_not.mp hl, not_not.mp h3, not_not.mp h4, h5⟩
    · exact .inr (.inl ⟨header h53, h⟩)
    · exact .inr (.inr (.inl ⟨header h52, h⟩))
    · exact .inr (.inr (.inr ⟨header h57, h⟩))

/-- What the address checks have read when they pass a frame on: two zeros, and the two bytes of the address (R53, R77,
R92). -/
theorem decodeAddressed_cases {k : Addr → Decoded} (h : decodeAddressed b k = .instr i) :
    ∃ a, k a = .instr i ∧ b.getD 6 0 = 0x00 ∧ b.getD 7 0 = 0x00 ∧ b.getD 8 0 = msb a ∧
      b.getD 9 0 = lsb a := by
  unfold decodeAddressed at h
  split_ifs at h with hz hm
  obtain ⟨h6, h7⟩ := not_or.mp hz
  obtain ⟨hmsb, hlsb⟩ := msb_lsb_addrOfBytes (b.getD 8 0) (b.getD 9 0) (Nat.le_of_not_lt hm)
  exact ⟨_, h, not_not.mp h6, not_not.mp h7, hmsb.symm, hlsb.symm⟩

/-- A long command with an address, from its first ten bytes (R81, R82). -/
theorem LongHeader.eq_append_of_address (h : LongHeader opc b) (hl : 10 ≤ b.length) {a : Addr}
    (h6 : b.getD 6 0 = 0x00) (h7 : b.getD 7 0 = 0x00) (h8 : b.getD 8 0 = msb a)
    (h9 : b.getD 9 0 = lsb a) :
    b = [0xAA, 0x42, BitVec.ofNat 8 (b.length - 4), 0x00, 0x81, opc, 0x00, 0x00, msb a, lsb a] ++
      b.drop 10 := by
  have hrest : b.drop 6 = [0x00, 0x00, msb a, lsb a] ++ b.drop 10 := by
    calc b.drop 6 = (List.range 4).map (fun j => (b.drop 6).getD j 0) ++ (b.drop 6).drop 4 :=
          eq_map_getD_append_drop _ (by simp; omega)
      _ = [b.getD 6 0, b.getD 7 0, b.getD 8 0, b.getD 9 0] ++ b.drop 10 := by
          simp [List.range_succ]
      _ = _ := by rw [h6, h7, h8, h9]
  exact (h.eq_append (by omega)).trans (congrArg _ hrest)

/-! ### The four frames -/

/-- Two bytes 0xAA and 0x40 are the VerifyCardType frame (R79). -/
theorem eq_verifyFrame (h0 : b.getD 0 0 = 0xAA) (h1 : b.getD 1 0 = 0x40) (hl : b.length = 2) :
    b = verifyFrame := by
  calc b = [b.getD 0 0, b.getD 1 0] ++ b.drop 2 := eq_map_getD_append_drop b hl.ge
    _ = verifyFrame := by rw [h0, h1, List.drop_of_length_le hl.le]; rfl

/-- The one frame that decodes as GetId (R80). -/
theorem eq_getIdFrame (hh : LongHeader 0x53 b) (h : decodeGetId b = .instr i) :
    i = .wireGetId ∧ b = getIdFrame := by
  obtain ⟨hi, hl⟩ := decodeGetId_eq_instr h
  refine ⟨hi, ?_⟩
  unfold decodeGetId at h
  split_ifs at h with _ hz
  have hb := hh.eq_append (by omega)
  rw [drop_eq_replicate_of_allZero hz, hl] at hb
  exact hb

/-- A frame that decodes as ReadFrame is the one of its address (R81). -/
theorem eq_readFrame (hh : LongHeader 0x52 b) (h : decodeReadFrame b = .instr i) :
    ∃ a, i = .wireReadFrame a ∧ b = readFrame a := by
  obtain ⟨-, -, hl⟩ := decodeReadFrame_eq_instr h
  rw [decodeReadFrame, if_neg (by simp [hl])] at h
  obtain ⟨a, ha, h6, h7, h8, h9⟩ := decodeAddressed_cases h
  split_ifs at ha with hz
  have hb := hh.eq_append_of_address (by omega) h6 h7 h8 h9
  rw [drop_eq_replicate_of_allZero hz, hl] at hb
  exact ⟨a, (Decoded.instr.inj ha).symm, hb⟩

/-- The bytes of a WriteFrame frame after its address: 128 data bytes, the checksum byte and three zeros (R82). -/
theorem drop_ten_eq_of_writeFrame (hl : b.length = 142) (hz : allZero (b.drop 139) = true) :
    b.drop 10 = (b.drop 10).take 128 ++ [b.getD 138 0, 0x00, 0x00, 0x00] := by
  have hzeros : b.drop 139 = [0x00, 0x00, 0x00] := by
    rw [drop_eq_replicate_of_allZero hz, hl]
    rfl
  have hsum : b.drop 138 = [b.getD 138 0, 0x00, 0x00, 0x00] := by
    rw [List.drop_eq_getElem_cons (by omega : 138 < b.length), hzeros]
    simp [hl]
  rw [← hsum]
  simpa using (List.take_append_drop 128 (b.drop 10)).symm

/-- A frame that decodes as WriteFrame is the one of its address, data and checksum byte (R82). -/
theorem eq_writeFrame (hh : LongHeader 0x57 b) (h : decodeWriteFrame b = .instr i) :
    ∃ a d c, i = .wireWriteFrame a d c ∧ d.length = 128 ∧ b = writeFrame a d c := by
  obtain ⟨-, -, -, -, hl⟩ := decodeWriteFrame_eq_instr h
  rw [decodeWriteFrame, if_neg (by simp [hl])] at h
  obtain ⟨a, ha, h6, h7, h8, h9⟩ := decodeAddressed_cases h
  split_ifs at ha with hz
  have hb := hh.eq_append_of_address (by omega) h6 h7 h8 h9
  rw [drop_ten_eq_of_writeFrame hl hz, hl, ← List.append_assoc] at hb
  exact ⟨a, _, _, (Decoded.instr.inj ha).symm, by simp [hl], hb⟩

/-! ### The round trips -/

/-- A frame that decodes is the encoding of its instruction: no byte of it is unread (log entry 14). -/
theorem encode_of_decodeFrame (h : decodeFrame b = .instr i) : encode i = .frame b ∧ i.wf = true := by
  obtain ⟨h0, h1, hl, rfl⟩ | ⟨hh, h⟩ | ⟨hh, h⟩ | ⟨hh, h⟩ := decodeFrame_cases h
  · exact ⟨congrArg Fetched.frame (eq_verifyFrame h0 h1 hl).symm, rfl⟩
  · obtain ⟨rfl, rfl⟩ := eq_getIdFrame hh h
    exact ⟨rfl, rfl⟩
  · obtain ⟨a, rfl, rfl⟩ := eq_readFrame hh h
    exact ⟨rfl, rfl⟩
  · obtain ⟨a, d, c, rfl, hd, rfl⟩ := eq_writeFrame hh h
    exact ⟨rfl, by simp [Instr.wf, hd]⟩

/-- Of any continuation, the address checks of a ReadFrame or a WriteFrame frame hand over the address (R53, R77). -/
theorem decodeAddressed_append (L opc : Byte) (a : Addr) (rest : List Byte) (k : Addr → Decoded) :
    decodeAddressed ([0xAA, 0x42, L, 0x00, 0x81, opc, 0x00, 0x00, msb a, lsb a] ++ rest) k = k a := by
  have hm : ¬ 3 < (msb a).toNat := Nat.not_lt.mpr (msb_le a)
  simp [decodeAddressed, hm, addrOfBytes_msb_lsb]

/-- The ReadFrame frame of an address decodes to it (R81). -/
theorem decodeFrame_readFrame (a : Addr) : decodeFrame (readFrame a) = .instr (.wireReadFrame a) := by
  have hread : decodeReadFrame (readFrame a) = .instr (.wireReadFrame a) := by
    rw [decodeReadFrame, if_neg (by simp), readFrame, decodeAddressed_append]
    simp [allZero]
  rw [← hread]
  simp [decodeFrame, decodeLong, readFrame]

/-- The WriteFrame frame of an address, 128 data bytes and a checksum byte decodes to them (R82). -/
theorem decodeFrame_writeFrame (a : Addr) {d : List Byte} (hd : d.length = 128) (c : Byte) :
    decodeFrame (writeFrame a d c) = .instr (.wireWriteFrame a d c) := by
  have hpast : d.drop 129 = [] := List.drop_of_length_le (by omega)
  have hwrite : decodeWriteFrame (writeFrame a d c) = .instr (.wireWriteFrame a d c) := by
    rw [decodeWriteFrame, if_neg (by simp [hd]), writeFrame, List.append_assoc, decodeAddressed_append]
    simp [allZero, List.drop_append, hd, hpast]
  rw [← hwrite]
  simp [decodeFrame, decodeLong, writeFrame, hd]

/-- The frame of a well-formed instruction decodes to it (R79 to R82). -/
theorem decodeFrame_of_encode (h : encode i = .frame b) (hi : i.wf = true) : decodeFrame b = .instr i := by
  cases i with
  | wireVerifyCardType | wireGetId => cases h; rfl
  | wireReadFrame a => cases h; exact decodeFrame_readFrame a
  | wireWriteFrame a d c => cases h; exact decodeFrame_writeFrame a (by simpa [Instr.wf] using hi) c
  | encVerify | encGetid | encRead | encWrite | decode | csum => cases h

/-- The decoder and the encoder are inverse to each other on well-formed instructions. -/
theorem decode_eq_instr_iff {f : Fetched} : decode f = .instr i ↔ encode i = f ∧ i.wf = true := by
  cases f with
  | controlWord w =>
    exact decodeControlWord_eq_instr.trans ⟨fun h => ⟨h, wf_of_encode_eq_controlWord h⟩, And.left⟩
  | frame b => exact ⟨encode_of_decodeFrame, fun ⟨h, hi⟩ => decodeFrame_of_encode h hi⟩

/-- Settles O3: the control words by op code and address, the frames byte by byte. -/
theorem decodeOfEncode : Obligations.DecodeOfEncode := fun _ hi => decode_eq_instr_iff.mpr ⟨rfl, hi⟩

/-- Settles O4: every field of a word and every byte of a frame has been read when the decoder answers. -/
theorem encodeOfDecode : Obligations.EncodeOfDecode := fun _ _ h => decode_eq_instr_iff.mp h

end Sys2Proof
end

section
/-! PROOFS. The other statements of 30_encoding.md: the words and frames written out from the tables, the assembler
(R90), the write-data port (R76), and the frame that goes out after an ENC operation (R143). -/

namespace Sys2Proof.Machine

variable {s : State}

/-- Settles O1: the decoder computes each answer. -/
theorem specWordsDecode : Obligations.SpecWordsDecode := by
  unfold Obligations.SpecWordsDecode
  decide

/-! ### The assembler (R90) -/

/-- An operation without an address assembles, without an operand, to its control word (R90). -/
theorem assemble_none {i : Instr} (h : i = .encVerify ∨ i = .encGetid ∨ i = .decode) :
    ∃ w, assemble i.mnemonic none = some w ∧ encode i = .controlWord w := by
  obtain rfl | rfl | rfl := h <;> exact ⟨_, rfl, rfl⟩

/-- An operation with an address assembles, with that operand, to its control word (R90). -/
theorem assemble_some {a : Addr} {i : Instr} (h : i = .encRead a ∨ i = .encWrite a ∨ i = .csum a) :
    ∃ w, assemble i.mnemonic (some a.toNat) = some w ∧ encode i = .controlWord w := by
  have ha : ¬ 1023 < a.toNat := by omega
  obtain rfl | rfl | rfl := h <;> exact ⟨_, by simp [assemble, Instr.mnemonic, ha], rfl⟩

/-- An address above 1023 is not assembled (R90). -/
theorem assemble_above (m : String) {n : Nat} (h : 1023 < n) : assemble m (some n) = none := by
  simp [assemble, h]

/-- What assembles to an operation's control word decodes to the operation. -/
theorem map_decode_of_encode {o : Option ControlWord} {i : Instr}
    (h : ∃ w, o = some w ∧ encode i = .controlWord w) :
    o.map (fun w => decode (.controlWord w)) = some (.instr i) := by
  obtain ⟨w, rfl, hw⟩ := h
  exact congrArg some (decodeControlWord_of_encode hw)

/-- Settles O6: each mnemonic assembles to its operation's control word, and that decodes to the operation. -/
theorem assemblerWords : Obligations.AssemblerWords :=
  ⟨fun _ hi => map_decode_of_encode (assemble_none hi),
    fun _ _ hi => map_decode_of_encode (assemble_some hi), fun m _ => assemble_above m⟩

/-! ### The write-data port (R76) -/

/-- Settles O19: the port is written as a whole, and the checksum is over what is read back from it. -/
theorem wdataPortHoldsWhatIsDriven : Obligations.WdataPortHoldsWhatIsDriven := fun d s =>
  ⟨s.driveWdata d, rfl, wdataBytes_driveWdata s d,
    fun a => by rw [wdataChecksum, wdataBytes_driveWdata], rfl⟩

/-! ### The send after an ENC operation (R143) -/

/-- A wire row's frame is the command of its kind (R79 to R82, R88). -/
theorem encode_wireOp (k : Kind) (a : Addr) (d : List Byte) :
    encode (wireOp k a d) = .frame (commandFrame k a d) := by
  cases k <;> rfl

/-- The command of a kind, with 128 bytes of data, decodes to the kind's wire row (R88). -/
theorem decode_commandFrame (k : Kind) (a : Addr) {d : List Byte} (hd : d.length = 128) :
    decode (.frame (commandFrame k a d)) = .instr (wireOp k a d) := by
  refine decode_eq_instr_iff.mpr ⟨encode_wireOp k a d, ?_⟩
  cases k <;> simp [wireOp, Instr.wf, hd]

/-- On an idle block an ENC operation opens its exchange (R100). -/
theorem exec_encOp_of_idle (hs : s.idle) (k : Kind) (a : Addr) :
    exec (encOp k a) s =
      .next (s.openExchange k (latchedAddr k a) (commandFrame k a (wdataBytes s))) := by
  obtain ⟨hf, hv⟩ := hs
  rw [exec_encOp, encCommon_eq_next]
  exact ⟨hf, .inr ⟨hv, rfl⟩⟩

/-- Settles O21: the built command is read back, decodes to its wire row, and may be sent. -/
theorem sendAfterEncSendsTheBuiltCommand : Obligations.SendAfterEncSendsTheBuiltCommand := by
  intro k a s hs
  obtain ⟨hf, -⟩ := id hs
  have hlen : (commandFrame k a (wdataBytes s)).length ≤ 144 :=
    (commandFrame_length k a _ (wdataBytes_length s)).trans_le (cmdLenOf_le k)
  have hbytes := commandBytes_openExchange s k (latchedAddr k a) _ hlen
  have hdec := hbytes.symm ▸ decode_commandFrame k a (wdataBytes_length s)
  refine ⟨_, exec_encOp_of_idle hs k a, hbytes, hdec, ?_⟩
  rw [present_send_of_instr hdec, exec_wireOp, sendFrame_eq_next]
  exact ⟨hf, maySend_iff.mpr ⟨rfl, rfl, rfl, hbytes.symm⟩, rfl⟩

end Sys2Proof.Machine
end

section
/-! PROOFS. DECODE and the response bytes that no rule reads (R83 to R86; 93 U10): every check, and everything that is
copied from the response, depends on the checked bytes alone. -/

namespace Sys2Proof.Machine

variable {s t : State} {k : Kind}

/-- Two responses agree in every byte that some rule reads for the kind (R83 to R86). -/
def SameCheckedBytes (k : Kind) (s t : State) : Prop :=
  ∀ i, checkedByte k i = true → readByte .respBuf i t = readByte .respBuf i s

/-- Runs of checked bytes are the same. -/
theorem SameCheckedBytes.readBytes_eq (h : SameCheckedBytes k s t) (lo n : Nat)
    (hc : ∀ i < n, checkedByte k (lo + i) = true) :
    readBytes .respBuf lo n t = readBytes .respBuf lo n s :=
  readBytes_congr _ _ _ fun i hi => h _ (hc i hi)

/-- A read response is checked from byte 10 to its end (R85). -/
theorem checkedByte_read {i : Nat} (hlo : 10 ≤ i) (hi : i < 144) : checkedByte .read i = true := by
  simp [checkedByte, hlo, hi]

/-- The two status bytes are checked for every kind (R83 to R86). -/
theorem checkedByte_status (k : Kind) {i : Nat} (hi : i < 2) : checkedByte k i = true := by
  cases k <;> simp [checkedByte, hi]

/-- The status checks read the two status bytes alone (R152 to R156). -/
theorem SameCheckedBytes.statusStop_eq (h : SameCheckedBytes k s t) (hx : t.xferErr = s.xferErr)
    (hl : t.respLen = s.respLen) : statusStop k t = statusStop k s := by
  have h0 := h 0 (checkedByte_status k (by decide))
  have h1 := h 1 (checkedByte_status k (by decide))
  simp only [statusStop, hx, hl, h0, h1]

/-- The comparator's value depends on checked bytes alone (R124). -/
theorem SameCheckedBytes.respChecksum_eq (h : SameCheckedBytes .read s t) :
    respChecksum t = respChecksum s :=
  congrArg xorFold (h.readBytes_eq 12 130 fun _ _ => checkedByte_read (by omega) (by omega))

/-- The field checks of a kind read checked bytes alone (R157). -/
theorem SameCheckedBytes.fieldChecks_eq (h : SameCheckedBytes k s t) (a : Addr) :
    fieldChecks k a t = fieldChecks k a s := by
  cases k with
  | verify => simp only [fieldChecks, h 1 rfl]
  | getId =>
    have hid := h.readBytes_eq 6 8 (by decide)
    simp only [fieldChecks, hid]
  | read =>
    simp only [fieldChecks, ackCheck, echoCheck, checksumCheck, h.respChecksum_eq, h 10 rfl, h 11 rfl,
      h 12 rfl, h 13 rfl, h 142 rfl, h 143 rfl]
  | write => simp only [fieldChecks, h 141 rfl]

/-- What DECODE finds out depends on checked bytes alone (R151). -/
theorem SameCheckedBytes.verdict_eq (h : SameCheckedBytes k s t) (hx : t.xferErr = s.xferErr)
    (hl : t.respLen = s.respLen) (a : Addr) : verdict k a t = verdict k a s := by
  simp only [verdict, checks, h.statusStop_eq hx hl, h.fieldChecks_eq a]

/-- The data delivered is checked by the checksum of a read (R179). -/
theorem SameCheckedBytes.decodedData_eq (h : SameCheckedBytes k s t) :
    decodedData k t = decodedData k s := by
  cases k with
  | read => exact h.readBytes_eq 14 128 fun _ _ => checkedByte_read (by omega) (by omega)
  | verify | getId | write => rfl

/-- The checksum delivered depends on checked bytes alone (R36). -/
theorem SameCheckedBytes.decodedCsum_eq (h : SameCheckedBytes k s t) :
    decodedCsum k t = decodedCsum k s := by
  cases k with
  | read => exact h.respChecksum_eq
  | verify | getId | write => rfl

/-- The end byte delivered is a checked one (R37, R187). -/
theorem SameCheckedBytes.decodedEnd_eq (h : SameCheckedBytes k s t) :
    decodedEnd k t = decodedEnd k s := by
  cases k with
  | read => exact h 143 rfl
  | write => exact h 141 rfl
  | verify | getId => rfl

/-- DECODE of two responses that agree in the checked bytes leaves the same state but for `RESP_BUF` (R151). -/
theorem decodedState_respBuf (m : Memory) (h : SameCheckedBytes s.latKind s { s with respBuf := m }) :
    decodedState { s with respBuf := m } = { decodedState s with respBuf := m } := by
  simp only [decodedState, h.verdict_eq rfl rfl, h.decodedData_eq, h.decodedCsum_eq, h.decodedEnd_eq,
    State.recordResults]

/-- On a block that is ready for it DECODE writes the results (R150). -/
theorem exec_decode_of_ready (hs : s.readyToDecode k) : exec .decode s = .next (decodedState s) := by
  obtain ⟨hf, hv, hr, -⟩ := hs
  exact execDecode_eq_next.mpr ⟨hf, .inr (.inr ⟨hv, hr, rfl⟩)⟩

/-- Settles O34: the verdict and every value copied from the response are the same for both states. -/
theorem uncheckedBytesDoNotMatter : Obligations.UncheckedBytesDoNotMatter := by
  intro k s s' hs hs' hbytes
  obtain ⟨m, rfl⟩ : ∃ m, s' = { s with respBuf := m } := ⟨_, hs'⟩
  obtain ⟨-, -, -, rfl⟩ := id hs
  refine ⟨_, exec_decode_of_ready hs, ?_⟩
  rw [exec_decode_of_ready (s := { s with respBuf := m }) hs, decodedState_respBuf m hbytes]

end Sys2Proof.Machine
end

section
/-! PROOFS. The statements of 40_encoder.md: the control words of the four ENC operations, the command each builds
(R100 to R104), its frame, and what the command depends on (R105). -/

namespace Sys2Proof.Machine

variable {s : State} {w v : ControlWord} {i : Instr}

/-! ### The control words (R70 to R74) -/

/-- The one word that decodes to an operation is its control word. -/
theorem decode_controlWord_iff (h : encode i = .controlWord v) :
    decode (.controlWord w) = .instr i ↔ w = v := by
  rw [decode, decodeControlWord_eq_instr, h, Fetched.controlWord.injEq, eq_comm]

/-- `OP[1:0]` of an ENC operation's word is its kind's code, and `OP[2]` is 0 (R71, R100). -/
theorem cwOp_presentedWord_encOp (k : Kind) (a : Addr) :
    cwOp (presentedWord (encOp k a)) = k.code.setWidth 3 := by
  cases k <;> exact cwOp_controlWord _ _

/-- A word with a nonzero reserved field is illegal (R73, R74). -/
theorem illegal_of_cwRsvd_ne_zero (h : cwRsvd w ≠ 0) : legal w = false :=
  Bool.eq_false_iff.mpr fun hl => h (legal_iff.mp hl).1

/-- Of the words whose operation takes no address only the bare one is legal (R72, R74). -/
theorem illegal_of_ne_bareWord {op : BitVec 3} (hop : cwOp w = op)
    (hbare : op ≠ 2 ∧ op ≠ 3 ∧ op ≠ 5) (hw : w ≠ controlWord op 0) : legal w = false := by
  refine Bool.eq_false_iff.mpr fun hl => hw ?_
  obtain ⟨h2, h3, h5⟩ := hbare
  obtain ⟨hr, -, haddr⟩ := legal_iff.mp hl
  rw [hop] at haddr
  have ha : cwAddr w = 0 := ((haddr.resolve_left h2).resolve_left h3).resolve_left h5
  rw [← controlWord_cwOp_cwAddr w hr, hop, ha]

/-! ### What an ENC operation writes (R100) -/

/-- On an idle block an ENC operation writes the whole of `CMD_BUF`, which `buf` lists, its length, the latch and
`RESP_FULL`, and no other register of the block (R100). -/
theorem exec_encOp_writes (hs : s.idle) (k : Kind) (a : Addr) {buf : List Byte}
    (hbuf : commandFrame k a (wdataBytes s) ++ List.replicate (144 - cmdLenOf k) 0x00 = buf) :
    ∃ t, exec (encOp k a) s = .next t ∧ t = { s with
      cmdBuf := Memory.ofBytes buf
      cmdLen := BitVec.ofNat 8 (cmdLenOf k)
      latKind := k
      latAddr := latchedAddr k a
      latValid := true
      respFull := false
      wire := t.wire } := by
  refine ⟨_, exec_encOp_of_idle hs k a, ?_⟩
  rw [← hbuf, ← commandFrame_length k a _ (wdataBytes_length s)]
  rfl

/-- With an exchange outstanding an ENC operation is EXCHANGE_OUTSTANDING with its control word (R100, R203). -/
theorem exec_encOp_of_outstanding (hf : s.faultCause = .none) (hv : s.latValid = true) (k : Kind)
    (a : Addr) : exec (encOp k a) s =
      .next { s with faultCause := .exchangeOutstanding, faultInfo := presentedWord (encOp k a) } := by
  rw [exec_encOp, encCommon_eq_next]
  exact ⟨hf, .inl ⟨hv, rfl⟩⟩

/-- Settles O9: the two bytes of VerifyCardType and 142 zeros. -/
theorem encVerifyBuildsItsCommand : Obligations.EncVerifyBuildsItsCommand :=
  ⟨fun _ => decode_controlWord_iff rfl, fun _ hf =>
    ⟨fun hv => exec_encOp_writes ⟨hf, hv⟩ .verify 0 rfl,
      fun hv => exec_encOp_of_outstanding hf hv .verify 0,
      fun _ hop hw => raisesIllegalOp_of_illegal hf (illegal_of_ne_bareWord hop (by decide) hw)⟩⟩

/-- Settles O10: the 14 bytes of GetId and 130 zeros. -/
theorem encGetidBuildsItsCommand : Obligations.EncGetidBuildsItsCommand :=
  ⟨fun _ => decode_controlWord_iff rfl, fun _ hf =>
    ⟨fun hv => exec_encOp_writes ⟨hf, hv⟩ .getId 0 rfl,
      fun hv => exec_encOp_of_outstanding hf hv .getId 0,
      fun _ hop hw => raisesIllegalOp_of_illegal hf (illegal_of_ne_bareWord hop (by decide) hw)⟩⟩

/-- Settles O11: the ReadFrame command fills `CMD_BUF`. -/
theorem encReadBuildsItsCommand : Obligations.EncReadBuildsItsCommand := fun a =>
  ⟨fun _ => decode_controlWord_iff rfl, fun _ hf =>
    ⟨fun hv => exec_encOp_writes ⟨hf, hv⟩ .read a (List.append_nil _),
      fun hv => exec_encOp_of_outstanding hf hv .read a,
      fun _ _ hr => raisesIllegalOp_of_illegal hf (illegal_of_cwRsvd_ne_zero hr)⟩⟩

/-- Settles O12: the 142 bytes of WriteFrame, with the generated checksum, and two zeros. -/
theorem encWriteBuildsItsCommand : Obligations.EncWriteBuildsItsCommand := fun a =>
  ⟨fun _ => decode_controlWord_iff rfl, fun _ hf =>
    ⟨fun hv => exec_encOp_writes ⟨hf, hv⟩ .write a rfl,
      fun hv => exec_encOp_of_outstanding hf hv .write a,
      fun _ _ hr => raisesIllegalOp_of_illegal hf (illegal_of_cwRsvd_ne_zero hr)⟩⟩

/-! ### What is read back, and what it depends on (R100, R105) -/

/-- A command with 128 data bytes fits into `CMD_BUF` (R4, R89). -/
theorem commandFrame_length_le (k : Kind) (a : Addr) {d : List Byte} (hd : d.length = 128) :
    (commandFrame k a d).length ≤ 144 :=
  (commandFrame_length k a d hd).trans_le (cmdLenOf_le k)

/-- Settles O13: the built command is read back byte by byte, and every other register is the old one. -/
theorem encCommonEffectAndFrame : Obligations.EncCommonEffectAndFrame := by
  refine fun k a => ⟨?_, fun s hf => ⟨fun hv => ?_, fun hv => exec_encOp_of_outstanding hf hv k a⟩⟩
  · rw [cwOp_presentedWord_encOp]
    cases k <;> rfl
  · have hd := wdataBytes_length s
    have hbuilt := commandBuilt_openExchange s k a _ hd
    refine ⟨_, exec_encOp_of_idle ⟨hf, hv⟩ k a, fun j hj => ?_, commandFrame_length k a _ hd,
      hbuilt.length, rfl, rfl, rfl, rfl, ?_, rfl, ⟨fun _ => rfl, rfl, rfl⟩, ⟨rfl, rfl⟩, ⟨rfl, rfl⟩⟩
    · exact readByte_openExchange s k _ _ j (commandFrame_length_le k a hd) hj
    · exact ⟨rfl, rfl, rfl, rfl, rfl, rfl, rfl, fun _ => rfl, rfl, rfl⟩

/-- Only a WriteFrame command carries write data (R79 to R82). -/
theorem commandFrame_congr {k : Kind} {a : Addr} {d d' : List Byte} (h : k = .write → d = d') :
    commandFrame k a d = commandFrame k a d' := by
  cases k with
  | verify | getId | read => rfl
  | write => rw [h rfl]

/-- Two exchanges opened with the same command hold the same 144 bytes, whatever stood there before (R105). -/
theorem readBytes_cmdBuf_openExchange_eq (s s' : State) (k : Kind) (a : Addr) {f : List Byte}
    (hf : f.length ≤ 144) :
    readBytes .cmdBuf 0 144 (s.openExchange k a f) = readBytes .cmdBuf 0 144 (s'.openExchange k a f) := by
  refine readBytes_congr _ _ _ fun j hj => ?_
  rw [readByte_openExchange s k a f _ hf (by omega), readByte_openExchange s' k a f _ hf (by omega)]

/-- Settles O14: both states build the same frame, and it fills `CMD_BUF` and sets `CMD_LEN`. -/
theorem encIsAFunctionOfItsOperands : Obligations.EncIsAFunctionOfItsOperands := by
  intro k a s s' hs hs' hd
  refine ⟨_, _, exec_encOp_of_idle hs k a, exec_encOp_of_idle hs' k a, ?_⟩
  rw [← commandFrame_congr hd]
  exact ⟨readBytes_cmdBuf_openExchange_eq s s' k _ (commandFrame_length_le k a (wdataBytes_length s)),
    rfl⟩

end Sys2Proof.Machine
end

section
/-! PROOFS. Whole exchanges: an ENC operation, its response and DECODE, presented one after another (R61), and the two
exchanges that carry data, by what their response holds. -/

namespace Sys2Proof.Machine

variable {s t : State} {e : Input}

/-! ### The three inputs of an exchange -/

/-- An input that the block takes hands its next state on to the inputs after it. -/
theorem presentAll_cons_of_next (h : present e s = .next t) (es : List Input) :
    presentAll (e :: es) s = presentAll es t := by
  simp only [presentAll, h]

/-- The control word of an ENC operation runs it (R70, R71). -/
theorem present_presentedWord_encOp (k : Kind) (a : Addr) (s : State) :
    present (.control (presentedWord (encOp k a))) s = exec (encOp k a) s :=
  present_control_of_instr (decodeControlWord_of_encode (by cases k <;> rfl)) s

/-- A response that is awaited and fits is taken (R142). -/
theorem present_deliver_of_awaited (hf : s.faultCause = .none) (hv : s.latValid = true)
    (hw : s.respFull = false) {r : List Byte} (hr : r.length ≤ 144) (x : Bool) :
    present (.deliver r x) s = .next (s.receive r x) := by
  have hn : (BitVec.ofNat 8 r.length).toNat ≤ 144 := (Nat.mod_le ..).trans hr
  have hport : r.length ≤ 255 := by omega
  exact hostDeliver_eq_next.mpr ⟨hport, deliver_eq_next.mpr ⟨hf, .inr (.inr (.inr ⟨hn, hv, hw, rfl⟩))⟩⟩

/-- The block when the response to the command of an ENC operation has come in and waits for DECODE (R100, R142). -/
def State.answered (s : State) (k : Kind) (a : Addr) (r : List Byte) (x : Bool) : State :=
  (s.openExchange k (latchedAddr k a) (commandFrame k a (wdataBytes s))).receive r x

/-- From an idle block an ENC operation, a response that fits and DECODE run, whatever the response holds (R61). -/
theorem presentAll_exchange (hs : s.idle) (k : Kind) (a : Addr) {r : List Byte} (hr : r.length ≤ 144)
    (x : Bool) :
    presentAll [.control (presentedWord (encOp k a)), .deliver r x, .control 0x0004] s =
      .next (decodedState (s.answered k a r x)) := by
  obtain ⟨hf, -⟩ := id hs
  have henc := (present_presentedWord_encOp k a s).trans (exec_encOp_of_idle hs k a)
  have hdel := present_deliver_of_awaited
    (s := s.openExchange k (latchedAddr k a) (commandFrame k a (wdataBytes s))) hf rfl rfl hr x
  have hready : (s.answered k a r x).readyToDecode k := ⟨hf, rfl, rfl, rfl⟩
  have hdec := (present_control_of_instr (w := 0x0004) (i := .decode) rfl _).trans
    (exec_decode_of_ready hready)
  exact (presentAll_cons_of_next henc _).trans
    ((presentAll_cons_of_next hdel _).trans (presentAll_cons_of_next hdec []))

/-- DECODE of a response leaves the block idle (R151). -/
theorem idle_decodedState_answered (hs : s.idle) (k : Kind) (a : Addr) (r : List Byte) (x : Bool) :
    (decodedState (s.answered k a r x)).idle :=
  have ⟨hf, _⟩ := hs
  ⟨hf, rfl⟩

/-- What DECODE finds out about a response is what it records (R38, R151). -/
theorem decodedState_answered {k : Kind} {a : Addr} {r : List Byte} {x : Bool} {v : Verdict}
    (hv : verdict k (latchedAddr k a) (s.answered k a r x) = v) :
    (decodedState (s.answered k a r x)).outcome = v.outcome ∧
    (decodedState (s.answered k a r x)).perrCause = v.perrCause ∧
    (decodedState (s.answered k a r x)).fatal = fatalOf v.outcome := by
  subst hv
  exact ⟨rfl, rfl, rfl⟩

/-! ### What DECODE reads of the response -/

/-- `RESP_LEN` is the number of bytes delivered (R142). -/
theorem receive_respLen_toNat (s : State) {r : List Byte} (hr : r.length ≤ 144) (x : Bool) :
    (s.receive r x).respLen.toNat = r.length := by
  rw [receive_respLen, BitVec.toNat_ofNat]
  omega

/-- A run of bytes of a response that was delivered. -/
theorem readBytes_receive (s : State) {r : List Byte} (hr : r.length ≤ 144) (x : Bool) {lo n : Nat}
    (hn : lo + n ≤ r.length) : readBytes .respBuf lo n (s.receive r x) = (r.drop lo).take n := by
  refine readBytes_eq _ _ _ _ _ (by simp; omega) fun i hi => ?_
  have hi' : i < n := (List.length_take_le ..).trans_lt' hi
  rw [readByte_receive s r x (lo + i) hr (by omega), List.getElem_take, List.getElem_drop]

/-- `RDATA` after DECODE is what DECODE writes there (R179). -/
theorem readBytes_rdata_decodedState (s : State) :
    readBytes .rdata 0 128 (decodedState s) = decodedData s.latKind s := by
  refine readBytes_eq _ _ _ _ _ (decodedData_length _ s) fun i hi => ?_
  rw [Nat.zero_add, readByte_of_ofBytes .rdata i _ rfl hi]

/-- A response of the kind's length with good status bytes passes the status checks (R152 to R156). -/
theorem statusStop_receive_eq_none {k : Kind} {rest : List Byte} (s : State)
    (hl : ([0x55, 0x5A] ++ rest).length ≤ 144) (hk : reqLenOf k ≤ ([0x55, 0x5A] ++ rest).length) :
    statusStop k (s.receive ([0x55, 0x5A] ++ rest) false) = none := by
  refine statusStop_eq_none.mpr ⟨rfl, by rwa [receive_respLen_toNat s hl], ?_, fun _ => ?_⟩
  · exact readByte_receive s _ false 0 hl (by simp)
  · exact readByte_receive s _ false 1 hl (by simp)

/-! ### The read exchange -/

/-- The response to a ReadFrame command whose acknowledge pair, echo and end byte are good (R85). -/
def readResponse (a : Addr) (gap d : List Byte) (c : Byte) : List Byte :=
  [0x55, 0x5A] ++ gap ++ [0x5C, 0x5D, msb a, lsb a] ++ d ++ [c, 0x47]

section
variable {a : Addr} {gap d : List Byte} (c : Byte) (s : State) (hd : d.length = 128)
  (hgap : gap.length = 8)
include hd hgap

/-- A read response is 144 bytes long (R4, R85). -/
theorem readResponse_length : (readResponse a gap d c).length = 144 := by
  simp [readResponse, hd, hgap]

/-- The comparator's input is the echoed address and the data (R124). -/
theorem readBytes_readResponse_echo_data :
    readBytes .respBuf 12 130 (s.receive (readResponse a gap d c) false) = [msb a, lsb a] ++ d := by
  have hl := readResponse_length (a := a) c hd hgap
  have hsplit : readResponse a gap d c =
      ([0x55, 0x5A] ++ gap ++ [0x5C, 0x5D]) ++ (([msb a, lsb a] ++ d) ++ [c, 0x47]) := by
    simp [readResponse]
  rw [readBytes_receive s hl.le false (by omega), hsplit, List.drop_left' (by simp [hgap]),
    List.take_left' (by simp [hd])]

/-- The data that DECODE copies is the data of the response (R179). -/
theorem respData_readResponse : respData (s.receive (readResponse a gap d c) false) = d := by
  have hl := readResponse_length (a := a) c hd hgap
  have hsplit : readResponse a gap d c =
      ([0x55, 0x5A] ++ gap ++ [0x5C, 0x5D, msb a, lsb a]) ++ (d ++ [c, 0x47]) := by
    simp [readResponse]
  rw [respData, readBytes_receive s hl.le false (by omega), hsplit, List.drop_left' (by simp [hgap]),
    List.take_left' hd]

/-- The bytes that the field checks of a read compare one by one (R85). -/
theorem readByte_readResponse :
    respByte 10 (s.receive (readResponse a gap d c) false) = 0x5C ∧
    respByte 11 (s.receive (readResponse a gap d c) false) = 0x5D ∧
    respByte 12 (s.receive (readResponse a gap d c) false) = msb a ∧
    respByte 13 (s.receive (readResponse a gap d c) false) = lsb a ∧
    respByte 142 (s.receive (readResponse a gap d c) false) = c ∧
    respByte 143 (s.receive (readResponse a gap d c) false) = 0x47 := by
  have hl := readResponse_length (a := a) c hd hgap
  have hbyte (i : Nat) (hi : i < 144) := readByte_receive s _ false i hl.le (hl.symm ▸ hi)
  refine ⟨?_, ?_, ?_, ?_, ?_, ?_⟩
  all_goals
    rw [respByte, hbyte _ (by decide)]
    simp [readResponse, hd, hgap]

/-- The comparator's value is the generator's for the same address and data (R123, R124). -/
theorem respChecksum_readResponse :
    respChecksum (s.receive (readResponse a gap d c) false) = checksum (msb a) (lsb a) d :=
  congrArg xorFold (readBytes_readResponse_echo_data c s hd hgap)

/-- The field checks of a read response that is good but perhaps for its checksum byte (R175 to R178). -/
theorem fieldChecks_readResponse :
    fieldChecks .read a (s.receive (readResponse a gap d c) false) =
      ⟨Flag.checksumMismatch.ifSo (c != checksum (msb a) (lsb a) d) ||| Flag.memoryEndGood.mask, .none,
        .none, .none⟩ := by
  obtain ⟨h10, h11, h12, h13, h142, h143⟩ := readByte_readResponse (a := a) c s hd hgap
  simp [fieldChecks, ackCheck, echoCheck, checksumCheck, readEnd, h10, h11, h12, h13, h142, h143,
    respChecksum_readResponse c s hd hgap, Flag.ifSo]

/-- What DECODE finds out about such a response: ChecksumMismatch, or Success (R158). -/
theorem verdict_readResponse :
    verdict .read a (s.receive (readResponse a gap d c) false) =
      ⟨if c = checksum (msb a) (lsb a) d then 0x840 else 0x060, .none, .none, .none⟩ := by
  have hl := readResponse_length (a := a) c hd hgap
  have hpass : statusStop .read (s.receive (readResponse a gap d c) false) = none := by
    simp only [readResponse, List.append_assoc] at hl ⊢
    exact statusStop_receive_eq_none s hl.le hl.ge
  rw [verdict_of_pass hpass, fieldChecks_readResponse c s hd hgap]
  split
  next h => rw [h, bne_self_eq_false]; rfl
  next h => rw [bne_iff_ne.mpr h]; rfl

end

/-- Settles O52: the three inputs run, and DECODE compares the checksum byte with the generator's value. -/
theorem readExchangeEndToEnd : Obligations.ReadExchangeEndToEnd := by
  intro a d gap c s hs hd hgap
  have hl := readResponse_length (a := a) c hd hgap
  obtain ⟨hout, hcause, hfatal⟩ :=
    decodedState_answered (s := s) (k := .read) (verdict_readResponse (a := a) c _ hd hgap)
  obtain ⟨-, -, -, -, -, hend⟩ := readByte_readResponse (a := a) c
    (s.openExchange .read a (commandFrame .read a (wdataBytes s))) hd hgap
  refine ⟨_, presentAll_exchange hs .read a hl.le false, hout, ?_,
    respChecksum_readResponse c _ hd hgap, hend, rfl, rfl, hcause, ?_,
    idle_decodedState_answered hs .read a _ false⟩
  · exact (readBytes_rdata_decodedState _).trans (respData_readResponse c _ hd hgap)
  · refine hfatal.trans ?_
    split <;> rfl

/-! ### The write exchange -/

/-- The response to a WriteFrame command with good status bytes and end byte `e` (R86). -/
def writeResponse (gap : List Byte) (e : Byte) : List Byte := [0x55, 0x5A] ++ gap ++ [e]

section
variable {gap : List Byte} (e : Byte) (s : State) (hgap : gap.length = 139)
include hgap

/-- A write response is 142 bytes long (R4, R86). -/
theorem writeResponse_length : (writeResponse gap e).length = 142 := by
  simp [writeResponse, hgap]

/-- The end byte of a write response (R86). -/
theorem respByte_writeResponse : respByte 141 (s.receive (writeResponse gap e) false) = e := by
  have hl := writeResponse_length e hgap
  rw [respByte, readByte_receive s _ false 141 (by omega) (by omega)]
  simp [writeResponse, hgap]

/-- What DECODE finds out about such a response is what its end byte says (R186). -/
theorem verdict_writeResponse (a : Addr) :
    verdict .write a (s.receive (writeResponse gap e) false) =
      ⟨withSuccess (writeEnd e).1.mask, (writeEnd e).2, .none, .none⟩ := by
  have hl := writeResponse_length e hgap
  have hpass : statusStop .write (s.receive (writeResponse gap e) false) = none := by
    simp only [writeResponse, List.append_assoc] at hl ⊢
    exact statusStop_receive_eq_none s (by omega) hl.ge
  rw [verdict_of_pass hpass, fieldChecks, respByte_writeResponse e s hgap]

end

/-- An end byte that is none of the five codes is a ProtocolError (R186). -/
theorem writeEnd_of_unknown {e : Byte} (h47 : e ≠ 0x47) (h4E : e ≠ 0x4E) (hFF : e ≠ 0xFF)
    (hFD : e ≠ 0xFD) (hFE : e ≠ 0xFE) : writeEnd e = (.protocolError, .endByte) := by
  simp only [writeEnd, h47, h4E, hFF, hFD, hFE, if_false]

/-- `FATAL` is set by the two rejections alone (R38). -/
theorem fatalOf_withSuccess_mask (f : Flag) : fatalOf (withSuccess f.mask) = true ↔
    f = .writeRejectedExecutingFile ∨ f = .writeRejectedProtectedRegion := by
  cases f <;> decide

/-- The two end bytes that are rejections (R87, R186). -/
theorem writeEnd_rejected_iff (e : Byte) :
    (writeEnd e).1 = .writeRejectedExecutingFile ∨ (writeEnd e).1 = .writeRejectedProtectedRegion ↔
      e = 0xFD ∨ e = 0xFE := by
  unfold writeEnd
  split_ifs <;> simp_all

/-- Settles O53: the three inputs run, the end byte alone decides the verdict, and the block is idle again. -/
theorem writeExchangeEndToEnd : Obligations.WriteExchangeEndToEnd := by
  intro a b gap e s hs hgap
  have hl : (writeResponse gap e).length ≤ 144 := (writeResponse_length e hgap).trans_le (by decide)
  obtain ⟨hout, hcause, hfatal⟩ :=
    decodedState_answered (s := s) (k := .write) (a := a) (verdict_writeResponse e _ hgap a)
  have hcode (code : Byte) (f : Flag) (hc : writeEnd code = (f, .none)) (he : e = code) :
      (decodedState (s.answered .write a (writeResponse gap e) false)).outcome = withSuccess f.mask ∧
        (decodedState (s.answered .write a (writeResponse gap e) false)).perrCause = .none := by
    rw [hout, hcause, he, hc]
    exact ⟨rfl, rfl⟩
  have hidle := idle_decodedState_answered hs .write a (writeResponse gap e) false
  obtain ⟨hf, -⟩ := id hidle
  have hnext := (present_presentedWord_encOp .write b _).trans (exec_encOp_of_idle hidle .write b)
  refine ⟨_, _, presentAll_exchange hs .write a hl false, rfl, respByte_writeResponse e _ hgap, hf,
    hcode 0x47 .memoryEndGood rfl, hcode 0x4E .memoryEndBadChecksum rfl,
    hcode 0xFF .memoryEndBadFrame rfl, hcode 0xFD .writeRejectedExecutingFile rfl,
    hcode 0xFE .writeRejectedProtectedRegion rfl, fun h47 h4E hFF hFD hFE => ?_, ?_,
    presentAll_cons_of_next hnext [], hf, rfl, rfl, rfl⟩
  · rw [writeEnd_of_unknown h47 h4E hFF hFD hFE] at hout hcause
    exact ⟨hout, hcause⟩
  · exact (iff_of_eq (congrArg (· = true) hfatal)).trans
      ((fatalOf_withSuccess_mask _).trans (writeEnd_rejected_iff e))

end Sys2Proof.Machine
end

section
/-! PROOFS. The statements of 41_checksum.md: the laws of the XOR fold (R122), the generator (R123), CSUM (R125), and
the frame of the instructions that write no space (R57, R125, R143). -/

namespace Sys2Proof.Machine

variable {s t : State}

/-! ### The laws of the fold (R120 to R122) -/

/-- The order of the bytes does not matter (R122). -/
theorem xorFold_perm {l l' : List Byte} (h : l.Perm l') : xorFold l = xorFold l' := h.foldr_eq 0x00

/-- The two address bytes may be exchanged, and the data reordered (R122). -/
theorem checksum_comm (m l : Byte) {d d' : List Byte} (h : d.Perm d') :
    checksum m l d = checksum l m d' :=
  xorFold_perm ((List.Perm.swap l m []).append h)

/-- One byte changed changes the fold by the XOR of old and new (R122). -/
theorem xorFold_set {l : List Byte} {i : Nat} {x : Byte} (h : l[i]? = some x) (y : Byte) :
    xorFold (l.set i y) = xorFold l ^^^ (x ^^^ y) := by
  induction l generalizing i with
  | nil => simp at h
  | cons b l ih =>
    cases i with
    | zero =>
      obtain rfl : b = x := by simpa using h
      calc y ^^^ xorFold l = (b ^^^ b) ^^^ (y ^^^ xorFold l) := by simp
        _ = b ^^^ xorFold l ^^^ (b ^^^ y) := by ac_rfl
    | succ i => rw [List.set_cons_succ, xorFold_cons, ih h, xorFold_cons, BitVec.xor_assoc]

/-- A pair of equal bytes contributes nothing (R122). -/
theorem xorFold_cons_cons_self (b : Byte) (l : List Byte) : xorFold (b :: b :: l) = xorFold l := by
  rw [xorFold_cons, xorFold_cons, ← BitVec.xor_assoc, BitVec.xor_self, BitVec.zero_xor]

/-- An even number of equal bytes folds to 0x00 (R122). -/
theorem xorFold_replicate_of_even (n : Nat) (b : Byte) : xorFold (List.replicate (2 * n) b) = 0x00 := by
  induction n with
  | zero => rfl
  | succ n ih => exact (xorFold_cons_cons_self b _).trans ih

/-- A list followed by its own checksum folds to 0x00 (R122). -/
theorem xorFold_append_xorFold (l : List Byte) : xorFold (l ++ [xorFold l]) = 0x00 := by simp

/-- A run of bytes and the byte after it. -/
theorem readBytes_succ (sp : Space) (lo n : Nat) (s : State) :
    readBytes sp lo (n + 1) s = readBytes sp lo n s ++ [readByte sp (lo + n) s] := by
  rw [readBytes, List.range'_1_concat, List.map_append]
  rfl

/-- Settles O15: each law by the shape of the list it speaks of. -/
theorem checksumLaws : Obligations.ChecksumLaws := by
  refine ⟨fun _ _ => xorFold_perm, fun m l d d' h => ⟨?_, checksum_comm m l (.refl d)⟩,
    fun _ _ _ y h => xorFold_set h y, fun l b => xorFold_cons_cons_self b l,
    xorFold_replicate_of_even 64, ?_, fun s h => ?_⟩
  · exact xorFold_perm (h.append_left [m, l])
  · exact xorFold_replicate_of_even 65 0x00
  · rw [readBytes_succ .respBuf 12 130, h]
    exact xorFold_append_xorFold _

/-! ### The generator (R123) -/

/-- A run of bytes of a command that an ENC operation has built. -/
theorem readBytes_openExchange (s : State) (k : Kind) (a : Addr) {f : List Byte} (hf : f.length ≤ 144)
    {lo n : Nat} (hn : lo + n ≤ f.length) :
    readBytes .cmdBuf lo n (s.openExchange k a f) = (f.drop lo).take n := by
  refine readBytes_eq _ _ _ _ _ (by simp; omega) fun i hi => ?_
  have hi' : i < n := (List.length_take_le ..).trans_lt' hi
  rw [readByte_openExchange s k a f _ hf (by omega), List.getD_eq_getElem _ _ (by omega),
    List.getElem_take, List.getElem_drop]

section
variable (a : Addr) {d : List Byte} (hd : d.length = 128) (c : Byte)
include hd

/-- Bytes 8 to 137 of a WriteFrame command are the address bytes and the data (R82). -/
theorem take_drop_writeFrame : ((writeFrame a d c).drop 8).take 130 = [msb a, lsb a] ++ d := by
  have hdrop : (writeFrame a d c).drop 8 = ([msb a, lsb a] ++ d) ++ [c, 0x00, 0x00, 0x00] := rfl
  rw [hdrop, List.take_left' (by simp [hd])]

/-- Byte 138 of a WriteFrame command is its checksum byte (R82). -/
theorem getD_writeFrame_checksum : (writeFrame a d c).getD 138 0x00 = c := by
  simp [writeFrame, hd]

end

/-- Settles O16: the byte that ENC.WRITE lays out at 138, and the bytes before it that it covers. -/
theorem encWriteGeneratesTheChecksum : Obligations.EncWriteGeneratesTheChecksum := by
  intro a s hs
  have hd := wdataBytes_length s
  have hlen := commandFrame_length_le .write a hd
  have hbyte := (readByte_openExchange s .write a _ 138 hlen (by decide)).trans
    (getD_writeFrame_checksum a hd _)
  refine ⟨_, exec_encOp_of_idle hs .write a, hbyte, hbyte.trans (congrArg xorFold ?_)⟩
  have hcovered : 8 + 130 ≤ (commandFrame .write a (wdataBytes s)).length := by
    rw [commandFrame_length .write a _ hd]
    decide
  exact ((readBytes_openExchange s .write a hlen hcovered).trans (take_drop_writeFrame a hd _)).symm

/-! ### CSUM (R125) -/

/-- Settles O17: CSUM runs on every block that is not faulted, and its value does not depend on what it writes. -/
theorem csumWritesCalcCsumOnly : Obligations.CsumWritesCalcCsumOnly := by
  refine fun a => ⟨fun _ => decode_controlWord_iff rfl, fun s hf =>
    ⟨execCsum_eq_next.mpr ⟨hf, rfl⟩, fun t h => ?_,
      fun _ _ hr => raisesIllegalOp_of_illegal hf (illegal_of_cwRsvd_ne_zero hr)⟩⟩
  obtain ⟨-, rfl⟩ := execCsum_eq_next.mp h
  exact execCsum_eq_next.mpr ⟨hf, rfl⟩

/-! ### The instructions that write no space (R57, R125, R143) -/

/-- The wire is all that a send writes (R143). -/
theorem wireOnly_of_sendFrame {f : List Byte} (h : sendFrame f s = .next t) :
    t = { s with wire := t.wire } := by
  obtain ⟨-, -, rfl⟩ := sendFrame_eq_next.mp h
  rfl

/-- CSUM writes `CALC_CSUM`, a wire frame the record of the wire (log entry 8), and neither writes more. -/
theorem exec_csum_or_wireFrame {i : Instr} (h : exec i s = .next t)
    (hi : (∃ a, i = .csum a) ∨ i = .wireVerifyCardType ∨ i = .wireGetId ∨ (∃ a, i = .wireReadFrame a) ∨
      ∃ a d c, i = .wireWriteFrame a d c) :
    (∃ a, i = .csum a ∧ t = { s with calcCsum := t.calcCsum }) ∨ t = { s with wire := t.wire } := by
  obtain ⟨a, rfl⟩ | rfl | rfl | ⟨a, rfl⟩ | ⟨a, d, c, rfl⟩ := hi
  · obtain ⟨-, rfl⟩ := execCsum_eq_next.mp h
    exact .inl ⟨a, rfl, rfl⟩
  all_goals exact .inr (wireOnly_of_sendFrame h)

/-- Settles O18: `CALC_CSUM` and the wire are no part of what the statement compares. -/
theorem registerOnlyInstructionsKeepMemory : Obligations.RegisterOnlyInstructionsKeepMemory := by
  intro i s t h hi
  obtain ⟨a, rfl, ht⟩ | ht := exec_csum_or_wireFrame h hi
  all_goals
    rw [ht]
    refine ⟨fun _ _ => rfl, ⟨fun _ => rfl, rfl, rfl, rfl⟩, ⟨fun _ => rfl, rfl, rfl⟩,
      ⟨rfl, rfl, rfl, rfl, rfl, rfl, rfl, fun _ => rfl, rfl, rfl⟩, ⟨rfl, rfl⟩, ⟨rfl, rfl⟩, rfl, rfl,
      fun hne => ?_⟩
  · exact absurd rfl (hne a)
  · rfl

end Sys2Proof.Machine
end

section
/-! PROOFS. The statements of 42_response_port.md: the checks and the writes of HOST.DELIVER (R141, R142), an exchange
whose transport failed (R144, R152), and the transport's send (R143). -/

namespace Sys2Proof.Machine

variable {s t : State} {r : List Byte}

/-! ### HOST.DELIVER (R140 to R142) -/

/-- The four ways HOST.DELIVER ends in a next state, by the number of bytes delivered (R141, R142). -/
theorem present_deliver_eq_next (hr : r.length ≤ 255) {x : Bool} :
    present (.deliver r x) s = .next t ↔ s.faultCause = .none ∧
      ((144 < r.length ∧ t = s.enterFault .badRespLen (BitVec.ofNat 16 r.length)) ∨
        (r.length ≤ 144 ∧ s.latValid = false ∧
          t = s.enterFault .unexpectedResponse (BitVec.ofNat 16 r.length)) ∨
        (r.length ≤ 144 ∧ s.latValid = true ∧ s.respFull = true ∧
          t = s.enterFault .responseOverrun (BitVec.ofNat 16 r.length)) ∨
        (r.length ≤ 144 ∧ s.latValid = true ∧ s.respFull = false ∧ t = s.receive r x)) := by
  have hn : (BitVec.ofNat 8 r.length).toNat = r.length := by
    rw [BitVec.toNat_ofNat]
    omega
  have hinfo : (BitVec.ofNat 8 r.length).setWidth 16 = BitVec.ofNat 16 r.length :=
    BitVec.setWidth_ofNat_of_le_of_lt (by decide) (by omega)
  rw [present, hostDeliver_eq_next, deliver_eq_next, hn, hinfo]
  exact and_iff_right hr

/-- A faulted block takes no response (R204). -/
theorem present_deliver_of_faulted (hr : r.length ≤ 255) (hf : s.faultCause ≠ .none) (x : Bool) :
    present (.deliver r x) s = .fault .stuck := by
  rw [present, hostDeliver, if_pos hr, deliver, whenNotFaulted_stuck hf]

/-- Settles O23: each check raises its block fault where the checks before it have passed. -/
theorem deliverChecks : Obligations.DeliverChecks := by
  intro r x s hr
  refine ⟨fun hf => ⟨fun hlong => ?_, fun hlen hv => ?_, fun hlen hv hw => ?_⟩,
    fun hf => present_deliver_of_faulted hr hf x⟩
  · exact (present_deliver_eq_next hr).mpr ⟨hf, .inl ⟨hlong, rfl⟩⟩
  · exact (present_deliver_eq_next hr).mpr ⟨hf, .inr (.inl ⟨hlen, hv, rfl⟩)⟩
  · exact (present_deliver_eq_next hr).mpr ⟨hf, .inr (.inr (.inl ⟨hlen, hv, hw, rfl⟩))⟩

/-- Settles O24: the response is taken by `State.receive`, and `RESP_BUF` is read back byte by byte. -/
theorem deliverWritesTheResponse : Obligations.DeliverWritesTheResponse := fun r x s hf hr hv hw =>
  ⟨s.receive r x, present_deliver_of_awaited hf hv hw hr x,
    fun i hi => readByte_receive s r x i hr hi, readByte_receive_past s r x, rfl,
    receive_respLen_toNat s hr x, rfl, rfl, rfl⟩

/-! ### A failed transport (R144, R152) -/

/-- DECODE after a failed transport finds TransportError alone, whatever the response holds (R152). -/
theorem verdict_of_xferErr (h : s.xferErr = true) (k : Kind) (a : Addr) :
    verdict k a s = ⟨0x001, .none, .none, .none⟩ :=
  verdict_of_stop (statusStop_transport h)

/-- Settles O54: the three inputs run, and the first status check stops DECODE. -/
theorem failedTransportEndToEnd : Obligations.FailedTransportEndToEnd := by
  intro k a r s hs hr
  obtain ⟨hout, hcause, hcard, hident, hfatal⟩ := decodedState_verdict (s.answered k a r true)
  rw [verdict_of_xferErr (s := s.answered k a r true) rfl] at hout hcause hcard hident hfatal
  exact ⟨_, presentAll_exchange hs k a hr true, hout, hcause, hcard, hident, hfatal, rfl, rfl,
    idle_decodedState_answered hs k a r true⟩

/-! ### The transport's send (R143) -/

/-- The outstanding command, neither answered nor sent, goes on the wire as it stands (R143). -/
theorem sendFrame_of_commandBytes (hf : s.faultCause = .none) (hv : s.latValid = true)
    (hr : s.respFull = false) (hw : s.wire = []) {f : List Byte} (hc : commandBytes s = f) :
    sendFrame f s = .next { s with wire := f } :=
  sendFrame_eq_next.mpr ⟨hf, maySend_iff.mpr ⟨hv, hr, hw, hc.symm⟩, rfl⟩

/-- Settles O20: each wire row sends its frame. -/
theorem sendPutsTheCommandOnTheWire : Obligations.SendPutsTheCommandOnTheWire := fun _ hf hv hr hw =>
  ⟨sendFrame_of_commandBytes hf hv hr hw, sendFrame_of_commandBytes hf hv hr hw,
    fun _ => sendFrame_of_commandBytes hf hv hr hw, fun _ _ _ => sendFrame_of_commandBytes hf hv hr hw⟩

end Sys2Proof.Machine
end

section
/-! PROOFS. The statements of 43_decoder.md: what DECODE needs (R150), what it records by kind where a status check stops
and where none does (R152 to R187), Success (R158), and the ordered list of what is recorded (R159). -/

namespace Sys2Proof.Machine

variable {s : State} {k : Kind} {a : Addr} {f g : Flag} {c pc : PErrCause} {o : BitVec 12}

/-- Settles O25: the two checks of R150 in their order, and its one control word. -/
theorem decodeNeedsAnExchangeAndAResponse : Obligations.DecodeNeedsAnExchangeAndAResponse :=
  ⟨fun _ => decode_controlWord_iff rfl, fun _ hf =>
    ⟨fun hv => execDecode_eq_next.mpr ⟨hf, .inl ⟨hv, rfl⟩⟩,
      fun hv hr => execDecode_eq_next.mpr ⟨hf, .inr (.inl ⟨hv, hr, rfl⟩)⟩,
      fun hv hr => ⟨_, exec_decode_of_ready ⟨hf, hv, hr, rfl⟩, hf⟩,
      fun _ hop hw => raisesIllegalOp_of_illegal hf (illegal_of_ne_bareWord hop (by decide) hw)⟩⟩

/-! ### What DECODE of a kind records (R151) -/

/-- DECODE of an exchange of kind `k` records the verdict of that kind. -/
theorem exec_decode_records (hs : s.readyToDecode k) :
    exec .decode s = .next (s.recordResults (verdict k s.latAddr s) (decodedData k s)
      (decodedCsum k s) (decodedEnd k s)) := by
  obtain ⟨-, -, -, rfl⟩ := id hs
  exact exec_decode_of_ready hs

/-- `RDATA` after DECODE of a read is the data of the response (R179). -/
theorem readByte_rdata_read {v : Verdict} {x e : Byte} (i : Nat) (hi : i < 128) :
    readByte .rdata i (s.recordResults v (decodedData .read s) x e) = readByte .respBuf (14 + i) s := by
  rw [readByte_of_ofBytes .rdata i _ rfl (by rwa [decodedData_length])]
  exact readBytes_getElem ..

/-- `RDATA` after DECODE of any other kind is zero (R179). -/
theorem readByte_rdata_of_ne_read {v : Verdict} {x e : Byte} (hk : k ≠ .read) (i : Nat)
    (hi : i < 128) : readByte .rdata i (s.recordResults v (decodedData k s) x e) = 0x00 := by
  have hdata : decodedData k s = List.replicate 128 0x00 := by
    cases k with
    | read => exact absurd rfl hk
    | verify | getId | write => rfl
  rw [hdata, readByte_of_ofBytes .rdata i _ rfl (by rwa [List.length_replicate])]
  exact List.getElem_replicate ..

/-- No kind but VERIFY records a card type (R33). -/
theorem verdict_cardType_of_ne_verify (hk : k ≠ .verify) : (verdict k a s).cardType = .none :=
  Classical.byContradiction fun h => hk ((checks_sound k a s).cardType.mp h).1

/-- No kind but GETID records an identity (R34). -/
theorem verdict_ident_of_ne_getId (hk : k ≠ .getId) : (verdict k a s).ident = .none :=
  Classical.byContradiction fun h => hk ((checks_sound k a s).ident.mp h).1

/-! ### Where a status check stops (R152 to R157) -/

/-- A short response is a ProtocolError (R153). -/
theorem verdict_of_short (k : Kind) (a : Addr) (h : s.xferErr = false)
    (hn : s.respLen.toNat < reqLenOf k) : verdict k a s = ⟨0x002, .length, .none, .none⟩ :=
  verdict_of_stop (statusStop_length h hn)

/-- A wrong adapter status is a ProtocolError (R154). -/
theorem verdict_of_adapterStatus (k : Kind) (a : Addr) (h : s.xferErr = false)
    (hn : reqLenOf k ≤ s.respLen.toNat) (h0 : readByte .respBuf 0 s ≠ 0x55) :
    verdict k a s = ⟨0x002, .adapterStatus, .none, .none⟩ :=
  verdict_of_stop (statusStop_adapter h hn h0)

/-- `P_AUTH_FAIL` is AuthenticationFailed, for a long command (R155). -/
theorem verdict_of_authFail (k : Kind) (a : Addr) (h : s.xferErr = false)
    (hn : reqLenOf k ≤ s.respLen.toNat) (h0 : readByte .respBuf 0 s = 0x55) (hk : k ≠ .verify)
    (h1 : readByte .respBuf 1 s = Config.pAuthFail) :
    verdict k a s = ⟨0x004, .none, .none, .none⟩ :=
  verdict_of_stop (statusStop_authentication h hn h0 hk h1)

/-- Any other wrong command status is a ProtocolError, for a long command (R156). -/
theorem verdict_of_commandStatus (k : Kind) (a : Addr) (h : s.xferErr = false)
    (hn : reqLenOf k ≤ s.respLen.toNat) (h0 : readByte .respBuf 0 s = 0x55) (hk : k ≠ .verify)
    (h1 : readByte .respBuf 1 s ≠ Config.pAuthFail) (h2 : readByte .respBuf 1 s ≠ 0x5A) :
    verdict k a s = ⟨0x002, .commandStatus, .none, .none⟩ :=
  verdict_of_stop (statusStop_command h hn h0 hk h1 h2)

/-- The outcomes of the status checks are the bits 0 to 2 (R31). -/
theorem bit_lt_of_statusStop (h : statusStop k s = some (f, c)) : f.bit < 3 := by
  have hmem := statusStop_mem h
  simp only [List.mem_cons, List.not_mem_nil, or_false, Prod.mk.injEq] at hmem
  obtain ⟨rfl, -⟩ | ⟨rfl, -⟩ | ⟨rfl, -⟩ | ⟨rfl, -⟩ | ⟨rfl, -⟩ := hmem <;> decide

/-- A status check that stops is a failure: Success is not recorded beside it (R157, R158). -/
theorem withSuccess_mask_of_status (hf : f.bit < 3) : withSuccess f.mask = f.mask := by
  revert hf
  cases f <;> decide

/-- A status check that stops leaves no bit of a field check, an end byte or Success (R157). -/
theorem getLsbD_of_statusStop (h : statusStop k s = some (f, c)) (i : Nat) (hi : 3 ≤ i) :
    (withSuccess f.mask).getLsbD i = false := by
  have hf := bit_lt_of_statusStop h
  rw [withSuccess_mask_of_status hf, Flag.getLsbD_mask]
  exact decide_eq_false (by omega)

/-- Some status check stops where one of its conditions fails (R152 to R156). -/
theorem exists_statusStop (h : s.xferErr = true ∨ s.respLen.toNat < reqLenOf k ∨
    readByte .respBuf 0 s ≠ 0x55 ∨ (k ≠ .verify ∧ readByte .respBuf 1 s ≠ 0x5A)) :
    ∃ fc, statusStop k s = some fc := by
  rw [← Option.ne_none_iff_exists', ne_eq, statusStop_eq_none]
  rintro ⟨hx, hn, h0, h1⟩
  obtain h | h | h | ⟨hk, h⟩ := h
  · simp [hx] at h
  · omega
  · exact h h0
  · exact h (h1 hk)

/-! ### Where no status check stops (R165 to R187) -/

/-- Where the checks record nothing, Success is recorded (R158). -/
theorem withSuccess_zero : withSuccess 0 = 0x800 := by decide

/-- The status checks of a VERIFY stop at byte 0 or not at all (R155). -/
theorem statusStop_verify_eq_none (h : s.xferErr = false) (hn : 2 ≤ s.respLen.toNat)
    (h0 : readByte .respBuf 0 s = 0x55) : statusStop .verify s = none :=
  statusStop_eq_none.mpr ⟨h, hn, h0, nofun⟩

/-- The status checks of a long command that have passed do not stop. -/
theorem statusStop_of_longStatusPassed (h : longStatusPassed s k) : statusStop k s = none := by
  obtain ⟨hx, hn, h0, h1⟩ := h
  exact statusStop_eq_none.mpr ⟨hx, hn, h0, fun _ => h1⟩

/-- A good VERIFY response is a Success with the card type of byte 1 (R166). -/
theorem verdict_verify_of_pass (h : statusStop .verify s = none) :
    verdict .verify a s = ⟨0x800, .none, cardTypeOf (readByte .respBuf 1 s), .none⟩ := by
  simp only [verdict_of_pass h, fieldChecks, withSuccess_zero]

/-- A good GETID response is a Success with the identity of its signature window (R171). -/
theorem verdict_getId_of_pass (h : statusStop .getId s = none) :
    verdict .getId a s = ⟨0x800, .none, .none, identityOf (readBytes .respBuf 6 8 s)⟩ := by
  simp only [verdict_of_pass h, fieldChecks, withSuccess_zero]

/-- The identity is MEMORY_CARD exactly for the signature (R171). -/
theorem identityOf_eq_memoryCard (w : List Byte) : identityOf w = .memoryCard ↔ w = signature := by
  unfold identityOf
  split <;> simp_all

/-- The identity of a window is one of two (R171). -/
theorem identityOf_cases (w : List Byte) : identityOf w = .memoryCard ∨ identityOf w = .unknown := by
  unfold identityOf
  split <;> simp

/-- The end byte of a good WRITE response is its outcome (R186). -/
theorem verdict_write_of_pass (h : statusStop .write s = none) :
    verdict .write a s = ⟨withSuccess (writeEnd (readByte .respBuf 141 s)).1.mask,
      (writeEnd (readByte .respBuf 141 s)).2, .none, .none⟩ :=
  verdict_of_pass h

/-- What a READ records by which of its acknowledge pair, address echo and checksum are wrong, and whether its end
byte is good (R175 to R178). -/
def readOutcome (ack echo csum good : Bool) : BitVec 12 :=
  withSuccess (Flag.commandAcknowledgeMismatch.ifSo ack ||| Flag.addressEchoMismatch.ifSo echo |||
    Flag.checksumMismatch.ifSo csum ||| (cond good Flag.memoryEndGood .protocolError).mask)

/-- The end byte of a READ is good or a ProtocolError (R178). -/
theorem readEnd_eq (e : Byte) : readEnd e =
    (cond (e == 0x47) .memoryEndGood .protocolError, if e = 0x47 then .none else .endByte) := by
  unfold readEnd
  split
  next h => rw [h]; rfl
  next h => rw [beq_false_of_ne h]; rfl

/-- The four field checks of a READ whose status checks have passed (R175 to R178). -/
theorem verdict_read_of_pass (h : statusStop .read s = none) :
    verdict .read a s =
      ⟨readOutcome (readByte .respBuf 10 s != 0x5C || readByte .respBuf 11 s != 0x5D)
          (readByte .respBuf 12 s != msb a || readByte .respBuf 13 s != lsb a)
          (readByte .respBuf 142 s != respChecksum s) (readByte .respBuf 143 s == 0x47),
        if readByte .respBuf 143 s = 0x47 then .none else .endByte, .none, .none⟩ := by
  rw [verdict_of_pass h, fieldChecks, readEnd_eq]
  rfl

/-! The bits of `readOutcome`: one for each check, and Success where none failed (R158). -/

theorem readOutcome_ack : ∀ ack echo csum good,
    (readOutcome ack echo csum good).getLsbD 3 = ack := by decide

theorem readOutcome_echo : ∀ ack echo csum good,
    (readOutcome ack echo csum good).getLsbD 4 = echo := by decide

theorem readOutcome_csum : ∀ ack echo csum good,
    (readOutcome ack echo csum good).getLsbD 5 = csum := by decide

theorem readOutcome_memoryEndGood : ∀ ack echo csum good,
    (readOutcome ack echo csum good).getLsbD 6 = good := by decide

theorem readOutcome_protocolError : ∀ ack echo csum good,
    (readOutcome ack echo csum good).getLsbD 1 = !good := by decide

theorem readOutcome_success : ∀ ack echo csum good,
    (readOutcome ack echo csum good).getLsbD 11 = (!ack && !echo && !csum && good) := by decide

/-- No field check of a READ sets another bit. -/
theorem readOutcome_other : ∀ ack echo csum good, ∀ i ∈ [0, 2, 7, 8, 9, 10],
    (readOutcome ack echo csum good).getLsbD i = false := by decide

/-- What DECODE of a WRITE records before Success is decided is one outcome, and no mismatch (R185, R186). -/
theorem verdict_write_outcome (s : State) (a : Addr) : ∃ f : Flag, (f.bit < 3 ∨ 5 < f.bit) ∧
    (verdict .write a s).outcome = withSuccess f.mask := by
  cases hstop : statusStop .write s with
  | some fc =>
    obtain ⟨f, c⟩ := fc
    exact ⟨f, .inl (bit_lt_of_statusStop hstop), by rw [verdict_of_stop hstop]⟩
  | none =>
    refine ⟨(writeEnd (readByte .respBuf 141 s)).1, ?_, by rw [verdict_write_of_pass hstop]⟩
    have hmem := writeEnd_mem (readByte .respBuf 141 s)
    simp only [List.mem_cons, List.not_mem_nil, or_false] at hmem
    obtain h | h | h | h | h | h := hmem <;> rw [h] <;> decide

/-- `FATAL` is set exactly where one of the two rejections is recorded alone (R38). -/
theorem fatalOf_withSuccess_mask_iff (f : Flag) : fatalOf (withSuccess f.mask) = true ↔
    withSuccess f.mask = 0x200 ∨ withSuccess f.mask = 0x400 := by
  cases f <;> decide

/-! ### The results of each kind -/

/-- Success alone is not fatal (R38). -/
theorem fatalOf_success : fatalOf 0x800 = false := by decide

/-- Only a rejected WRITE is fatal (R38). -/
theorem fatalOf_verdict_of_ne_write (hk : k ≠ .write) : fatalOf (verdict k a s).outcome = false := by
  cases hstop : statusStop k s with
  | some fc =>
    obtain ⟨f, c⟩ := fc
    rw [verdict_of_stop hstop, fatalOf, getLsbD_of_statusStop hstop 9 (by decide),
      getLsbD_of_statusStop hstop 10 (by decide)]
    rfl
  | none =>
    cases k with
    | verify =>
      rw [verdict_verify_of_pass hstop]
      exact fatalOf_success
    | getId =>
      rw [verdict_getId_of_pass hstop]
      exact fatalOf_success
    | read =>
      rw [verdict_read_of_pass hstop, fatalOf, readOutcome_other _ _ _ _ 9 (by decide),
        readOutcome_other _ _ _ _ 10 (by decide)]
      rfl
    | write => exact absurd rfl hk

/-- Settles O27: each status check that stops leaves its own verdict, and the raw data of a read is written. -/
theorem statusChecksInOrder : Obligations.StatusChecksInOrder := by
  refine fun k s hs => ⟨_, exec_decode_records hs,
    fun hx => verdict_of_xferErr hx k s.latAddr ▸ ⟨rfl, rfl⟩,
    fun hx hn => verdict_of_short k s.latAddr hx hn ▸ ⟨rfl, rfl⟩,
    fun hx hn h0 => verdict_of_adapterStatus k s.latAddr hx hn h0 ▸ ⟨rfl, rfl⟩,
    fun hx hn h0 hk => ⟨fun h1 => verdict_of_authFail k s.latAddr hx hn h0 hk h1 ▸ ⟨rfl, rfl⟩,
      fun h1 h2 => verdict_of_commandStatus k s.latAddr hx hn h0 hk h1 h2 ▸ ⟨rfl, rfl⟩⟩,
    fun hx hn h0 hk => ?_, fun hfail => ?_⟩
  · subst hk
    rw [verdict_verify_of_pass (statusStop_verify_eq_none hx hn h0)]
    rfl
  · obtain ⟨⟨f, c⟩, hstop⟩ := exists_statusStop hfail
    rw [verdict_of_stop hstop]
    refine ⟨rfl, rfl, getLsbD_of_statusStop hstop, ?_⟩
    rintro rfl
    exact ⟨readByte_rdata_read, rfl, rfl⟩

/-- Settles O28: byte 1 of a good response is the card type. -/
theorem decodeOfAVerifyExchange : Obligations.DecodeOfAVerifyExchange := by
  refine fun s hs => ⟨_, exec_decode_records hs,
    fun hx => verdict_of_xferErr hx .verify s.latAddr ▸ ⟨rfl, rfl, rfl⟩,
    fun hx hn => verdict_of_short .verify s.latAddr hx hn ▸ ⟨rfl, rfl, rfl⟩,
    fun hx hn h0 => verdict_of_adapterStatus .verify s.latAddr hx hn h0 ▸ ⟨rfl, rfl, rfl⟩,
    fun hx hn h0 => ?_, verdict_ident_of_ne_getId (by decide),
    readByte_rdata_of_ne_read (by decide), rfl, rfl, fatalOf_verdict_of_ne_write (by decide)⟩
  rw [verdict_verify_of_pass (statusStop_verify_eq_none hx hn h0)]
  exact ⟨rfl, rfl, fun h1 => if_pos h1, fun h2 => congrArg cardTypeOf h2,
    fun h1 h2 => (if_neg h1).trans (if_neg h2)⟩

/-- Settles O29: the signature window of a good response is the identity. -/
theorem decodeOfAGetIdExchange : Obligations.DecodeOfAGetIdExchange := by
  refine fun s hs => ⟨_, exec_decode_records hs,
    fun hx => verdict_of_xferErr hx .getId s.latAddr ▸ ⟨rfl, rfl, rfl⟩,
    fun hx hn => verdict_of_short .getId s.latAddr hx hn ▸ ⟨rfl, rfl, rfl⟩,
    fun hx hn h0 => verdict_of_adapterStatus .getId s.latAddr hx hn h0 ▸ ⟨rfl, rfl, rfl⟩,
    fun hx hn h0 h1 => verdict_of_authFail .getId s.latAddr hx hn h0 nofun h1 ▸ ⟨rfl, rfl, rfl⟩,
    fun hx hn h0 h1 h2 =>
      verdict_of_commandStatus .getId s.latAddr hx hn h0 nofun h1 h2 ▸ ⟨rfl, rfl, rfl⟩,
    fun hpass => ?_, verdict_cardType_of_ne_verify (by decide),
    readByte_rdata_of_ne_read (by decide), rfl, rfl, fatalOf_verdict_of_ne_write (by decide)⟩
  rw [verdict_getId_of_pass (statusStop_of_longStatusPassed hpass)]
  exact ⟨rfl, rfl, (identityOf_eq_memoryCard _).trans signature_iff, identityOf_cases _⟩

/-- Settles O30: each status check stops as in O27, and each field check sets its own bit of `readOutcome`. -/
theorem decodeOfAReadExchange : Obligations.DecodeOfAReadExchange := by
  intro s hs
  obtain ⟨t, ht, hx, hshort, hadapter, hlong, -⟩ := statusChecksInOrder .read s hs
  obtain rfl := Host.Outcome.next.inj ((exec_decode_records hs).symm.trans ht)
  refine ⟨_, ht, hx, hshort, hadapter, fun hx hn h0 => (hlong hx hn h0 nofun).1,
    fun hx hn h0 => (hlong hx hn h0 nofun).2, fun hpass => ?_, readByte_rdata_read, rfl, rfl,
    verdict_cardType_of_ne_verify (by decide), verdict_ident_of_ne_getId (by decide),
    fatalOf_verdict_of_ne_write (by decide)⟩
  have hother := readOutcome_other (readByte .respBuf 10 s != 0x5C || readByte .respBuf 11 s != 0x5D)
    (readByte .respBuf 12 s != msb s.latAddr || readByte .respBuf 13 s != lsb s.latAddr)
    (readByte .respBuf 142 s != respChecksum s) (readByte .respBuf 143 s == 0x47)
  rw [verdict_read_of_pass (statusStop_of_longStatusPassed hpass), recordResults_outcome,
    readOutcome_ack, readOutcome_echo, readOutcome_csum, readOutcome_memoryEndGood, readOutcome_protocolError,
    readOutcome_success]
  refine ⟨by simp, by simp, by simp [respChecksum], by simp, by simp, rfl, hother 0 (by decide),
    hother 2 (by decide), hother 7 (by decide), hother 8 (by decide), hother 9 (by decide),
    hother 10 (by decide), by simp [and_assoc]⟩

/-- Settles O31: each status check stops as in O27, and otherwise `writeEnd` decides; one outcome is recorded. -/
theorem decodeOfAWriteExchange : Obligations.DecodeOfAWriteExchange := by
  intro s hs
  obtain ⟨t, ht, hx, hshort, hadapter, hlong, -⟩ := statusChecksInOrder .write s hs
  obtain rfl := Host.Outcome.next.inj ((exec_decode_records hs).symm.trans ht)
  obtain ⟨f, hf, hout⟩ := verdict_write_outcome s s.latAddr
  have hbit (i : Nat) (hi : 3 ≤ i ∧ i ≤ 5) : (verdict .write s.latAddr s).outcome.getLsbD i = false := by
    rw [hout, withSuccess_getLsbD _ _ (by omega), Flag.getLsbD_mask]
    exact decide_eq_false (by omega)
  refine ⟨_, ht, hx, hshort, hadapter, fun hx hn h0 => (hlong hx hn h0 nofun).1,
    fun hx hn h0 => (hlong hx hn h0 nofun).2, fun hpass => ?_, ?_, hbit 3 (by decide),
    hbit 4 (by decide), hbit 5 (by decide), rfl, rfl, readByte_rdata_of_ne_read (by decide), rfl,
    verdict_cardType_of_ne_verify (by decide), verdict_ident_of_ne_getId (by decide)⟩
  · rw [verdict_write_of_pass (statusStop_of_longStatusPassed hpass)]
    refine ⟨fun h => h ▸ ⟨rfl, rfl⟩, fun h => h ▸ ⟨rfl, rfl⟩, fun h => h ▸ ⟨rfl, rfl⟩,
      fun h => h ▸ ⟨rfl, rfl⟩, fun h => h ▸ ⟨rfl, rfl⟩, fun h47 h4E hFF hFD hFE => ?_⟩
    rw [writeEnd_of_unknown h47 h4E hFF hFD hFE]
    exact ⟨rfl, rfl⟩
  · rw [recordResults_fatal, recordResults_outcome, hout]
    exact fatalOf_withSuccess_mask_iff f

/-! ### Success (R158) -/

/-- `FAIL_MASK` is the bits of the failures (R31, R158). -/
theorem failMask_getLsbD (i : Nat) : failMask.getLsbD i = true ↔ i ≤ 5 ∨ (7 ≤ i ∧ i ≤ 10) := by
  have hlow : ∀ i < 12, failMask.getLsbD i = true ↔ i ≤ 5 ∨ (7 ≤ i ∧ i ≤ 10) := by decide
  by_cases hi : i < 12
  · exact hlow i hi
  · rw [BitVec.getLsbD_of_ge _ _ (Nat.not_lt.mp hi)]
    exact iff_of_false nofun (by omega)

/-- Beside a single outcome Success is recorded only if that is MemoryEndGood (R158). -/
theorem eq_memoryEndGood_of_success (hf : f ≠ .success)
    (h : Flag.success.isIn (withSuccess f.mask) = true) : f = .memoryEndGood := by
  revert hf h
  cases f <;> decide

/-- Where a READ is a Success, MemoryEndGood is the one outcome beside it (R178). -/
theorem readOutcome_eq_of_success : ∀ ack echo csum good,
    Flag.success.isIn (readOutcome ack echo csum good) = true →
      readOutcome ack echo csum good = 0x840 := by decide

/-- A Success of each kind is one value of `OUTCOME` (R158). -/
theorem outcome_of_success (h : Flag.success.isIn (verdict k a s).outcome = true) :
    (verdict k a s).outcome = if k = .read ∨ k = .write then 0x840 else 0x800 := by
  cases hstop : statusStop k s with
  | some fc =>
    obtain ⟨f, c⟩ := fc
    rw [verdict_of_stop hstop, Flag.isIn, getLsbD_of_statusStop hstop _ (by decide)] at h
    exact nomatch h
  | none =>
    cases k with
    | verify => rw [verdict_verify_of_pass hstop]; rfl
    | getId => rw [verdict_getId_of_pass hstop]; rfl
    | read =>
      rw [verdict_read_of_pass hstop] at h ⊢
      exact readOutcome_eq_of_success _ _ _ _ h
    | write =>
      obtain ⟨hne, -⟩ := causeFits_writeEnd (readByte .respBuf 141 s)
      rw [verdict_write_of_pass hstop] at h ⊢
      rw [eq_memoryEndGood_of_success hne h]
      rfl

/-- Where nothing is recorded before Success is decided, Success is. -/
theorem success_of_checks_eq_zero (h : (checks k a s).outcome = 0) :
    Flag.success.isIn (verdict k a s).outcome = true := by
  have hout : (verdict k a s).outcome = 0x800 := (congrArg withSuccess h).trans withSuccess_zero
  rw [hout]
  decide

/-- Settles O32: Success is decided from the failures alone, and beside it only MemoryEndGood can stand. -/
theorem successExactlyWithoutFailure : Obligations.SuccessExactlyWithoutFailure := by
  refine ⟨failMask_getLsbD, fun k s hs => ⟨_, exec_decode_records hs, ?_, fun h hk => ?_,
    fun h hk => ?_, ?_⟩⟩
  · exact success_isIn_withSuccess (checks_sound k s.latAddr s).noSuccess
  · exact (outcome_of_success h).trans (if_pos hk)
  · refine (outcome_of_success h).trans (if_neg ?_)
    obtain rfl | rfl := hk <;> decide
  · have hsound := checks_sound k s.latAddr s
    rintro (h | h)
    · exact success_of_checks_eq_zero (hsound.cardType.mp (h.trans_ne nofun)).2
    · exact success_of_checks_eq_zero (hsound.ident.mp (h.trans_ne nofun)).2

/-! ### The ordered list (R159) -/

/-- Every outcome, in the order of the checks, by where ProtocolError stands (R159). -/
def checkOrder (pc : PErrCause) : List Flag :=
  if pc = .endByte then
    [.transportError, .authenticationFailed, .commandAcknowledgeMismatch, .addressEchoMismatch,
      .checksumMismatch, .memoryEndGood, .memoryEndBadChecksum, .memoryEndBadFrame,
      .writeRejectedExecutingFile, .writeRejectedProtectedRegion, .protocolError, .success]
  else
    [.transportError, .protocolError, .authenticationFailed, .commandAcknowledgeMismatch,
      .addressEchoMismatch, .checksumMismatch, .memoryEndGood, .memoryEndBadChecksum,
      .memoryEndBadFrame, .writeRejectedExecutingFile, .writeRejectedProtectedRegion, .success]

/-- The outcome list is the recorded ones of all outcomes, in the order of the checks. -/
theorem outcomeList_eq_filter (o : BitVec 12) (pc : PErrCause) :
    outcomeList o pc = (checkOrder pc).filter fun f => f.isIn o := by
  have hlisted (f : Flag) : Flag.listed f o = [f].filter fun f => f.isIn o := by
    simp [Flag.listed, List.filter_cons]
  by_cases hpc : pc = .endByte
  · simp [outcomeList, checkOrder, hlisted, hpc, ← List.filter_append]
  · simp [outcomeList, checkOrder, hlisted, hpc, ← List.filter_append]

/-- Every outcome has its place in the order. -/
theorem mem_checkOrder (f : Flag) (pc : PErrCause) : f ∈ checkOrder pc := by
  cases pc <;> cases f <;> decide

/-- Along the order the places rise, and only the outcomes of the end byte share one. -/
theorem pairwise_checkOrder (pc : PErrCause) : (checkOrder pc).Pairwise fun f g =>
    checkPlace pc f < checkPlace pc g ∨ (f ≠ g ∧ checkPlace pc f = 6 ∧ checkPlace pc g = 6) := by
  cases pc <;> decide

/-- An outcome with the place of the end byte is neither a mismatch nor Success. -/
theorem bit_of_checkPlace_eq_six (h : checkPlace pc f = 6) : (f.bit < 3 ∨ 5 < f.bit) ∧ f.bit ≠ 11 := by
  cases f <;> simp_all [checkPlace, Flag.bit]

/-- Beside the mismatches of a read the checks record one outcome at most (R157, R178, R186). -/
theorem exists_only_outcome (k : Kind) (a : Addr) (s : State) : ∃ g : Flag, ∀ i, i < 3 ∨ 5 < i →
    (checks k a s).outcome.getLsbD i = true → g.bit = i := by
  unfold checks
  split
  next f c _ => exact ⟨f, fun i _ => by simp⟩
  next =>
    cases k with
    | verify | getId => exact ⟨.success, fun i _ => by simp [fieldChecks]⟩
    | read =>
      refine ⟨(readEnd (respByte 143 s)).1, fun i hi => ?_⟩
      have hack : Flag.commandAcknowledgeMismatch.bit ≠ i := show 3 ≠ i by omega
      have hecho : Flag.addressEchoMismatch.bit ≠ i := show 4 ≠ i by omega
      have hcsum : Flag.checksumMismatch.bit ≠ i := show 5 ≠ i by omega
      simp [fieldChecks, ackCheck, echoCheck, checksumCheck, hack, hecho, hcsum]
    | write => exact ⟨(writeEnd (respByte 141 s)).1, fun i _ => by simp [fieldChecks]⟩

/-- DECODE records at most one outcome with the place of the end byte (R159). -/
theorem eq_of_endByte_place (hf : f.isIn (verdict k a s).outcome = true)
    (hg : g.isIn (verdict k a s).outcome = true) (hf6 : checkPlace pc f = 6)
    (hg6 : checkPlace pc g = 6) : f = g := by
  obtain ⟨e, he⟩ := exists_only_outcome k a s
  have heq {f : Flag} (hf : f.isIn (verdict k a s).outcome = true) (hf6 : checkPlace pc f = 6) :
      e = f := by
    obtain ⟨hrange, hne⟩ := bit_of_checkPlace_eq_six hf6
    refine Flag.bit_inj.mp (he _ hrange ?_)
    rw [← withSuccess_getLsbD _ _ hne]
    exact hf
  exact (heq hf hf6).symm.trans (heq hg hg6)

/-- The recorded outcomes stand in strict order (R159). -/
theorem pairwise_outcomeList (k : Kind) (a : Addr) (s : State) (pc : PErrCause) :
    (outcomeList (verdict k a s).outcome pc).Pairwise
      fun f g => checkPlace pc f < checkPlace pc g := by
  rw [outcomeList_eq_filter]
  refine ((pairwise_checkOrder pc).filter _).imp_of_mem fun {f g} hf hg hfg => ?_
  obtain hlt | ⟨hne, hf6, hg6⟩ := hfg
  · exact hlt
  · exact absurd (eq_of_endByte_place (List.mem_filter.mp hf).2 (List.mem_filter.mp hg).2 hf6 hg6) hne

/-- The members of the outcome list are the recorded outcomes (R159). -/
theorem mem_outcomeList : f ∈ outcomeList o pc ↔ f.isIn o = true := by
  rw [outcomeList_eq_filter, List.mem_filter]
  exact and_iff_right (mem_checkOrder f pc)

/-- Every bit of `OUTCOME` is an outcome's (R31). -/
theorem exists_bit_eq : ∀ i < 12, ∃ f ∈ checkOrder .none, f.bit = i := by decide

/-- A recorded bit is a recorded outcome. -/
theorem exists_isIn_of_ne_zero (h : o ≠ 0) : ∃ f : Flag, f.isIn o = true := by
  by_contra hnone
  refine h (BitVec.eq_of_getLsbD_eq fun i hi => ?_)
  obtain ⟨f, -, rfl⟩ := exists_bit_eq i hi
  refine Eq.trans ?_ BitVec.getLsbD_zero.symm
  exact Bool.eq_false_iff.mpr fun hf => hnone ⟨f, hf⟩

/-- DECODE records some outcome: where no check does, Success (R158). -/
theorem verdict_outcome_ne_zero (k : Kind) (a : Addr) (s : State) : (verdict k a s).outcome ≠ 0 := by
  intro h
  have hsuccess : Flag.success.isIn (verdict k a s).outcome = true ↔
      (verdict k a s).outcome &&& failMask = 0 :=
    success_isIn_withSuccess (checks_sound k a s).noSuccess
  rw [h] at hsuccess
  exact absurd (hsuccess.mpr BitVec.zero_and) (by decide)

/-- Settles O33: the list is the recorded outcomes of `checkOrder`, and some outcome is recorded. -/
theorem outcomeListInCheckOrder : Obligations.OutcomeListInCheckOrder := by
  refine fun k s hs => ⟨_, exec_decode_records hs, fun f => mem_outcomeList,
    pairwise_outcomeList k s.latAddr s _, ?_⟩
  obtain ⟨f, hf⟩ := exists_isIn_of_ne_zero (verdict_outcome_ne_zero k s.latAddr s)
  exact List.ne_nil_of_mem (mem_outcomeList.mpr hf)

end Sys2Proof.Machine
end

section
/-! PROOFS. The statements of 60_exceptions.md: which input raises which block fault (R201, R202), what a block fault
writes (R203), and that a faulted block moves only by reset (R204, R206). -/

namespace Sys2Proof.Machine

/-- Settles O35: of the effects of an input only the block fault leaves the block faulted. -/
theorem faultEntryIsPrecise : Obligations.FaultEntryIsPrecise := by
  intro e s t hf h ht
  cases Effect.of_present h with
  | fault => rfl
  | unchanged | encode | csum | decode | send | drive | receive => exact absurd hf ht
  | reset => exact absurd rfl ht

/-! ### The rows of R201 -/

/-- The condition of a cause's row of R201: the input, and what the checks before it and its own find in the
state. -/
def FaultCondition (e : Input) (s : State) : FaultCause → Prop
  | .none => False
  | .illegalOp => ∃ w, e = .control w ∧ legal w = false
  | .exchangeOutstanding =>
    ∃ w k a, e = .control w ∧ decode (.controlWord w) = .instr (encOp k a) ∧ s.latValid = true
  | .noExchange => e = .control 0x0004 ∧ s.latValid = false
  | .noResponse => e = .control 0x0004 ∧ s.latValid = true ∧ s.respFull = false
  | .unexpectedResponse => ∃ r x, e = .deliver r x ∧ r.length ≤ 144 ∧ s.latValid = false
  | .responseOverrun =>
    ∃ r x, e = .deliver r x ∧ r.length ≤ 144 ∧ s.latValid = true ∧ s.respFull = true
  | .badRespLen => ∃ r x, e = .deliver r x ∧ 144 < r.length

/-- The fault information that an input gives: the control word, or the number of bytes delivered (R40). -/
def infoOf : Input → BitVec 16
  | .control w => w
  | .deliver r _ => BitVec.ofNat 16 r.length
  | .drive _ | .send | .read _ | .reset => 0

variable {e : Input} {s t : State} {w : ControlWord} {i : Instr} {c : FaultCause}

/-- The word that decodes to an operation is the one its fault information gives (R70, R201). -/
theorem presentedWord_of_decode (h : decode (.controlWord w) = .instr i) : presentedWord i = w := by
  simp only [presentedWord, encode_of_decodeControlWord h]

/-- The word of DECODE runs it (R71). -/
theorem present_decodeWord (s : State) : present (.control 0x0004) s = exec .decode s :=
  present_control_of_instr (decodeControlWord_of_encode rfl) s

/-- An input that meets a cause's condition, where it is taken, raises that fault. -/
theorem FaultCondition.eq_enterFault (h : FaultCondition e s c) (hf : s.faultCause = .none)
    (hp : present e s = .next t) : t = s.enterFault c (infoOf e) := by
  suffices hs : present e s = .next (s.enterFault c (infoOf e)) from
    Host.Outcome.next.inj (hp.symm.trans hs)
  cases c with
  | none => exact h.elim
  | illegalOp =>
    obtain ⟨w, rfl, hw⟩ := h
    exact raisesIllegalOp_of_illegal hf hw
  | exchangeOutstanding =>
    obtain ⟨w, k, a, rfl, hd, hv⟩ := h
    rw [present_control_of_instr hd, exec_encOp_of_outstanding hf hv, presentedWord_of_decode hd]
    rfl
  | noExchange =>
    obtain ⟨rfl, hv⟩ := h
    exact (present_decodeWord s).trans (execDecode_eq_next.mpr ⟨hf, .inl ⟨hv, rfl⟩⟩)
  | noResponse =>
    obtain ⟨rfl, hv, hw⟩ := h
    exact (present_decodeWord s).trans (execDecode_eq_next.mpr ⟨hf, .inr (.inl ⟨hv, hw, rfl⟩)⟩)
  | unexpectedResponse =>
    obtain ⟨r, x, rfl, hr, hv⟩ := h
    exact (present_deliver_eq_next (by omega)).mpr ⟨hf, .inr (.inl ⟨hr, hv, rfl⟩)⟩
  | responseOverrun =>
    obtain ⟨r, x, rfl, hr, hv, hw⟩ := h
    exact (present_deliver_eq_next (by omega)).mpr ⟨hf, .inr (.inr (.inl ⟨hr, hv, hw, rfl⟩))⟩
  | badRespLen =>
    obtain ⟨r, x, rfl, hr⟩ := h
    obtain ⟨hport, -⟩ := hostDeliver_eq_next.mp hp
    exact (present_deliver_eq_next hport).mpr ⟨hf, .inl ⟨hr, rfl⟩⟩

/-! ### No input raises a fault outside its condition -/

/-- The operations of the control-word port: the four ENC operations, DECODE and CSUM (R71). -/
theorem decode_controlWord_cases (h : decode (.controlWord w) = .instr i) :
    (∃ k a, i = encOp k a) ∨ (i = .decode ∧ w = 0x0004) ∨ ∃ a, i = .csum a := by
  have hi := encode_of_decodeControlWord h
  cases i with
  | encVerify => exact .inl ⟨.verify, 0, rfl⟩
  | encGetid => exact .inl ⟨.getId, 0, rfl⟩
  | encRead a => exact .inl ⟨.read, a, rfl⟩
  | encWrite a => exact .inl ⟨.write, a, rfl⟩
  | decode => cases hi; exact .inr (.inl ⟨rfl, rfl⟩)
  | csum a => exact .inr (.inr ⟨a, rfl⟩)
  | wireVerifyCardType | wireGetId | wireReadFrame | wireWriteFrame => cases hi

/-- An operation of the control-word port faults by EXCHANGE_OUTSTANDING, NO_EXCHANGE or NO_RESPONSE alone. -/
theorem faultCondition_of_exec (hd : decode (.controlWord w) = .instr i) (h : exec i s = .next t)
    (ht : t.faultCause ≠ .none) : FaultCondition (.control w) s t.faultCause := by
  obtain ⟨k, a, rfl⟩ | ⟨rfl, rfl⟩ | ⟨a, rfl⟩ := decode_controlWord_cases hd
  · rw [exec_encOp] at h
    obtain ⟨hf, ⟨hv, rfl⟩ | ⟨-, rfl⟩⟩ := encCommon_eq_next.mp h
    · exact ⟨w, k, a, rfl, hd, hv⟩
    · exact absurd hf ht
  · obtain ⟨hf, ⟨hv, rfl⟩ | ⟨hv, hw, rfl⟩ | ⟨-, -, rfl⟩⟩ := execDecode_eq_next.mp h
    · exact ⟨rfl, hv⟩
    · exact ⟨rfl, hv, hw⟩
    · exact absurd hf ht
  · obtain ⟨hf, rfl⟩ := execCsum_eq_next.mp h
    exact absurd hf ht

/-- HOST.DELIVER faults by the three checks of R141 alone. -/
theorem faultCondition_of_deliver {r : List Byte} {x : Bool} (h : present (.deliver r x) s = .next t)
    (ht : t.faultCause ≠ .none) : FaultCondition (.deliver r x) s t.faultCause := by
  obtain ⟨hport, -⟩ := hostDeliver_eq_next.mp h
  obtain ⟨hf, ⟨hr, rfl⟩ | ⟨hr, hv, rfl⟩ | ⟨hr, hv, hw, rfl⟩ | ⟨-, -, -, rfl⟩⟩ :=
    (present_deliver_eq_next hport).mp h
  · exact ⟨r, x, rfl, hr⟩
  · exact ⟨r, x, rfl, hr, hv⟩
  · exact ⟨r, x, rfl, hr, hv, hw⟩
  · exact absurd hf ht

/-- The instruction of a frame sends that frame (R79 to R82, R143). -/
theorem exec_of_encode_frame {f : List Byte} (h : encode i = .frame f) (s : State) :
    exec i s = sendFrame f s := by
  cases i with
  | wireVerifyCardType | wireGetId | wireReadFrame | wireWriteFrame => cases h; rfl
  | encVerify | encGetid | encRead | encWrite | decode | csum => cases h

/-- A block that one input leaves faulted met the condition of that fault. -/
theorem faultCondition_of_present (hf : s.faultCause = .none) (h : present e s = .next t)
    (ht : t.faultCause ≠ .none) : FaultCondition e s t.faultCause := by
  obtain ⟨w, rfl, ⟨i, hd, hx⟩ | ⟨⟨why, hw⟩, -, rfl⟩⟩ | ⟨d, rfl, rfl⟩ | ⟨r, x, rfl, -⟩ |
    ⟨i, rfl, hd, hx⟩ | ⟨r, rfl, rfl⟩ | ⟨rfl, rfl⟩ := present_eq_next h
  · exact faultCondition_of_exec hd hx ht
  · refine ⟨w, rfl, Bool.eq_false_iff.mpr fun hl => ?_⟩
    obtain ⟨i, hi⟩ := legal_iff_exists_decode.mp hl
    cases hw.symm.trans hi
  · exact absurd hf ht
  · exact faultCondition_of_deliver h ht
  · obtain ⟨hframe, -⟩ := encode_of_decodeFrame hd
    rw [exec_of_encode_frame hframe] at hx
    obtain ⟨-, -, rfl⟩ := sendFrame_eq_next.mp hx
    exact absurd hf ht
  · exact absurd hf ht
  · exact absurd rfl ht

/-- A block fault is entered exactly under the condition of its row (R201, R202). -/
theorem faultCause_eq_iff (hf : s.faultCause = .none) (h : present e s = .next t) (hc : c ≠ .none) :
    t.faultCause = c ↔ FaultCondition e s c := by
  constructor
  · rintro rfl
    exact faultCondition_of_present hf h hc
  · intro hcond
    rw [hcond.eq_enterFault hf h]
    rfl

/-- A fault that is entered has the information that the input gives (R40, R203). -/
theorem faultInfo_eq_infoOf (hf : s.faultCause = .none) (h : present e s = .next t)
    (ht : t.faultCause ≠ .none) : t.faultInfo = infoOf e :=
  congrArg State.faultInfo ((faultCondition_of_present hf h ht).eq_enterFault hf h)

/-- Settles O36: `FaultCondition` is the statement's condition of each cause, `infoOf` its information. -/
theorem faultsOfEachStep : Obligations.FaultsOfEachStep := by
  intro e s t hf h
  refine ⟨faultCause_eq_iff hf h nofun, faultCause_eq_iff hf h nofun, faultCause_eq_iff hf h nofun,
    faultCause_eq_iff hf h nofun, faultCause_eq_iff hf h nofun, faultCause_eq_iff hf h nofun,
    faultCause_eq_iff hf h nofun, ?_, ?_⟩
  · rintro w rfl ht
    exact faultInfo_eq_infoOf hf h ht
  · rintro r x rfl ht
    exact faultInfo_eq_infoOf hf h ht

/-! ### A faulted block (R204, R206) -/

/-- A faulted block runs no instruction (R204). -/
theorem exec_of_faulted (hf : s.faultCause ≠ .none) (i : Instr) : exec i s = .fault .stuck := by
  cases i <;> exact whenNotFaulted_stuck hf _

/-- A faulted block takes no control word, legal or not (R204, R205). -/
theorem present_control_of_faulted (hf : s.faultCause ≠ .none) (w : ControlWord) :
    present (.control w) s = .fault .stuck := by
  simp only [present, presentControlWord]
  split
  · exact exec_of_faulted hf _
  · exact whenNotFaulted_stuck hf _

/-- What a faulted block takes, short of reset, leaves everything but the write-data port as it was (R204). -/
theorem present_eq_next_of_faulted (hf : s.faultCause ≠ .none) (he : .reset ≠ e)
    (h : present e s = .next t) : t = { s with wdata := t.wdata } := by
  cases Effect.of_present h with
  | unchanged | drive => rfl
  | fault _ _ running | encode _ _ running | csum _ running | decode running | send _ running
  | receive _ _ running => exact absurd running hf
  | reset => exact absurd rfl he

/-- A run that goes through takes its first input and then the others. -/
theorem presentAll_cons_eq_next {es : List Input} :
    presentAll (e :: es) s = .next t ↔ ∃ u, present e s = .next u ∧ presentAll es u = .next t := by
  rw [presentAll]
  cases present e s <;> simp

/-- A run without reset leaves a faulted block as it was but for the write-data port, by induction on the inputs:
the fault is still there when the next one comes (R204). -/
theorem presentAll_eq_next_of_faulted {es : List Input} (hf : s.faultCause ≠ .none)
    (hes : .reset ∉ es) (h : presentAll es s = .next t) : t = { s with wdata := t.wdata } := by
  induction es generalizing s with
  | nil => cases h; rfl
  | cons e es ih =>
    obtain ⟨he, hes⟩ := not_or.mp (mt List.mem_cons.mpr hes)
    obtain ⟨u, hu, h⟩ := presentAll_cons_eq_next.mp h
    have hsu := present_eq_next_of_faulted hf he hu
    have hfu : u.faultCause ≠ .none := hsu ▸ hf
    have hut := ih hfu hes h
    rw [hsu] at hut
    exact hut

/-- Settles O37: one input at a time, and then every run without reset. -/
theorem faultedBlockMovesOnlyByReset : Obligations.FaultedBlockMovesOnlyByReset :=
  ⟨fun s hf => ⟨present_control_of_faulted hf, fun _ x hr => present_deliver_of_faulted hr hf x,
    fun _ => rfl, s.resetFrom, rfl, rfl⟩, fun _ _ _ => presentAll_eq_next_of_faulted⟩

end Sys2Proof.Machine
end

section
/-! PROOFS. The statements of 70_reset_and_hazards.md: the sends that have no move (R235), what a reset leaves (R230,
R231), and how long results last (R237). -/

namespace Sys2Proof.Machine

variable {s t : State} {i : Instr}

/-! ### The sends that are forbidden (R143, R235) -/

/-- A frame that may not be sent is a breach on a block that is not faulted (R235). -/
theorem sendFrame_of_not_maySend (hf : s.faultCause = .none) {f : List Byte} (hm : ¬ maySend f s = true) :
    sendFrame f s = .refused .transportBreach := by
  rw [sendFrame, whenNotFaulted_running hf, if_neg hm]

/-- The four ways a send is forbidden: no command, its response delivered, sent before, or other bytes (R235). -/
theorem not_maySend_iff {f : List Byte} :
    ¬ maySend f s = true ↔
      s.latValid = false ∨ s.respFull = true ∨ s.wire ≠ [] ∨ commandBytes s ≠ f := by
  simp only [maySend_iff, not_and_or, Bool.not_eq_true, Bool.not_eq_false, ne_eq, eq_comm (a := f)]

/-- A command of length 0 has no bytes. -/
theorem commandBytes_of_cmdLen_eq_zero (h : s.cmdLen = 0) : commandBytes s = [] := by
  rw [commandBytes, h]
  rfl

/-- A buffer that holds no command has nothing to send (R88, R235). -/
theorem present_send_of_reject {why : Reject} (hf : s.faultCause = .none)
    (h : decode (.frame (commandBytes s)) = .reject why) :
    present .send s = .refused .noCommandFrame := by
  simp only [present, transportSend, h, whenNotFaulted_running hf]

/-- A faulted block sends nothing, whether or not it holds a command (R204). -/
theorem present_send_of_faulted (hf : s.faultCause ≠ .none) : present .send s = .fault .stuck := by
  simp only [present, transportSend]
  split
  · exact exec_of_faulted hf _
  · exact whenNotFaulted_stuck hf _

/-- Settles O22: each wire row is the send of its frame, and without a command there is no frame to decode. -/
theorem forbiddenSendsAreRefused : Obligations.ForbiddenSendsAreRefused := by
  refine ⟨fun k a d s hf hbreach => ?_, fun s hf hlen => ?_, fun s hf => ?_⟩
  · rw [exec_wireOp]
    exact sendFrame_of_not_maySend hf (not_maySend_iff.mpr hbreach)
  · refine present_send_of_reject (why := .noMagic) hf ?_
    rw [commandBytes_of_cmdLen_eq_zero hlen]
    rfl
  · exact ⟨present_send_of_faulted hf, fun _ _ _ => exec_of_faulted hf _⟩

/-! ### What a reset leaves (R43, R230, R231) -/

/-- A reset leaves 0 in every register (R43, R230). -/
theorem readReg_resetFrom (s : State) (r : Reg) : readReg s.resetFrom r = 0 := by
  cases r <;> rfl

/-- The draws of a reset reach the last byte of every space. -/
theorem Space.drawBase_add_size_le (sp : Space) : sp.drawBase + sp.size ≤ resetDraws := by
  cases sp <;> decide

/-- Of two spaces, the draws of one all stand before those of the other. -/
theorem Space.draws_disjoint {sp sp' : Space} (h : sp ≠ sp') :
    sp.drawBase + sp.size ≤ sp'.drawBase ∨ sp'.drawBase + sp'.size ≤ sp.drawBase := by
  revert h
  cases sp <;> cases sp' <;> decide

/-- No two bytes of the spaces share a draw of a reset. -/
theorem Space.drawPlace_inj {sp sp' : Space} {i i' : Nat} (hi : i < sp.size) (hi' : i' < sp'.size)
    (h : sp.drawBase + i = sp'.drawBase + i') : sp = sp' ∧ i = i' := by
  obtain rfl | hne := eq_or_ne sp sp'
  · exact ⟨rfl, Nat.add_left_cancel h⟩
  · have hdisj := Space.draws_disjoint hne
    omega

/-- Settles O39: the reset step is `State.resetFrom`, and its draws begin at the counter. -/
theorem resetClearsEveryRegister : Obligations.ResetClearsEveryRegister := by
  refine ⟨fun s => ⟨s.resetFrom, rfl, readReg_resetFrom s, le_rfl, fun sp i hi =>
    ⟨?_, readByte_resetFrom sp i s⟩⟩, fun _ _ _ _ => Space.drawPlace_inj,
    reset_eq_resetFrom ▸ readReg_resetFrom _⟩
  have hlast := sp.drawBase_add_size_le
  rw [resetFrom_resetDraw, resetFrom_draws]
  omega

/-- Settles O40: a reset leaves `LAT_VALID` 0, which is the second check of HOST.DELIVER (R141). -/
theorem resetAbandonsTheExchange : Obligations.ResetAbandonsTheExchange := fun s r _ hr =>
  have hdeliver := (present_deliver_eq_next (by omega)).mpr ⟨rfl, .inr (.inl ⟨hr, rfl, rfl⟩)⟩
  ⟨s.resetFrom, _, rfl, ⟨rfl, rfl⟩, hdeliver, rfl, rfl⟩

/-! ### How long results last (R237) -/

/-- A state has its own results; so has a state that differs from it in other fields alone, by unfolding. -/
theorem sameResults_refl (s : State) : sameResults s s :=
  ⟨rfl, rfl, rfl, rfl, rfl, rfl, rfl, fun _ => rfl, rfl, rfl⟩

/-- An instruction other than DECODE writes no result, and CSUM alone of them writes `CALC_CSUM`. -/
theorem sameResults_of_exec (h : exec i s = .next t) (hi : i ≠ .decode) :
    sameResults s t ∧ ((∀ a, i ≠ .csum a) → t.calcCsum = s.calcCsum) := by
  obtain ⟨-, ⟨c, v, -, rfl⟩ | ⟨k, a, -, -, rfl⟩ | ⟨a, ha, rfl⟩ | ⟨hd, -⟩ | ⟨f, -, rfl⟩⟩ := exec_eq_next h
  case inr.inr.inr.inl => exact absurd hd hi
  all_goals refine ⟨sameResults_refl s, fun hcsum => ?_⟩
  case inr.inr.inl => exact absurd ha (hcsum a)
  all_goals rfl

/-- HOST.DELIVER writes no result, whether it faults or not (R141, R142). -/
theorem sameResults_of_deliver {n : BitVec 8} {r : List Byte} {x : Bool}
    (h : deliver n r x s = .next t) : sameResults s t ∧ t.calcCsum = s.calcCsum := by
  obtain ⟨-, ⟨-, rfl⟩ | ⟨-, -, rfl⟩ | ⟨-, -, -, rfl⟩ | ⟨-, -, -, rfl⟩⟩ := deliver_eq_next.mp h
  all_goals exact ⟨sameResults_refl s, rfl⟩

/-- A send writes no result (R143). -/
theorem sameResults_of_sendFrame {f : List Byte} (h : sendFrame f s = .next t) :
    sameResults s t ∧ t.calcCsum = s.calcCsum := by
  obtain ⟨-, -, rfl⟩ := sendFrame_eq_next.mp h
  exact ⟨sameResults_refl s, rfl⟩

/-- The word that decodes to DECODE is 0x0004 alone (R71). -/
theorem eq_decodeWord_of_decode {w : ControlWord} (h : decode (.controlWord w) = .instr .decode) :
    w = 0x0004 :=
  (presentedWord_of_decode h).symm

/-- Settles O43: of the inputs only reset and the control word of DECODE reach the results, and the control word of a
CSUM `CALC_CSUM`; a send runs a frame, and a frame writes the wire alone. -/
theorem resultsLastUntilTheNextDecode : Obligations.ResultsLastUntilTheNextDecode := by
  intro e s t h hreset hdecode
  obtain ⟨w, rfl, ⟨i, hd, hx⟩ | ⟨-, -, rfl⟩⟩ | ⟨d, -, rfl⟩ | ⟨r, x, -, -, hx⟩ | ⟨i, -, hd, hx⟩ |
    ⟨r, -, rfl⟩ | ⟨he, -⟩ := present_eq_next h
  · have hi : i ≠ .decode := by
      rintro rfl
      exact hdecode (congrArg Input.control (eq_decodeWord_of_decode hd))
    obtain ⟨hsame, hcalc⟩ := sameResults_of_exec hx hi
    exact ⟨hsame, fun hcsum => hcalc fun a hia => hcsum w a rfl (hia ▸ hd)⟩
  · exact ⟨sameResults_refl s, fun _ => rfl⟩
  · exact ⟨sameResults_refl s, fun _ => rfl⟩
  · obtain ⟨hsame, hcalc⟩ := sameResults_of_deliver hx
    exact ⟨hsame, fun _ => hcalc⟩
  · obtain ⟨hframe, -⟩ := encode_of_decodeFrame hd
    obtain ⟨hsame, hcalc⟩ := sameResults_of_sendFrame ((exec_of_encode_frame hframe s).symm.trans hx)
    exact ⟨hsame, fun _ => hcalc⟩
  · exact ⟨sameResults_refl t, fun _ => rfl⟩
  · exact absurd he hreset

end Sys2Proof.Machine
end
